-- ==== Sys2Proof/Word.lean ====
section
/-! DEFINITION. The word types of the encoder: one bit, one byte, the 10-bit instruction word and the
16-bit storage it travels in (spec/00_scope.md R7, R8; spec/30_encoding.md R80 to R82). -/

namespace Sys2Proof

/-- `u1`: a Boolean operand or one line of the output byte. -/
abbrev Bit := BitVec 1

/-- `u8`: the output byte, a payload, a character (`OUT_W`, R7). -/
abbrev Byte := BitVec 8

/-- `u10`: the instruction word, format IW (`IW_W`, R7, R81). -/
abbrev Word := BitVec 10

/-- `u16`: the storage an instruction word travels in (`IW_STORE_W`, R7, R82; the spec's decision D2). -/
abbrev Storage := BitVec 16

end Sys2Proof
end

