-- ==== Sys2Proof/Config.lean ====
section
/-! DEFINITION. The fixed constants of the hardware (pin mapping, masks, geometry), its open parameters,
and the free values of what the spec leaves open (spec/00_scope.md R7; spec/10_state.md R38, R39). -/

namespace Sys2Proof.Config

/-! ### Fixed constants (R7, R38) -/

/-- Output bit carrying register-select. -/
def PIN_RS : Nat := 0
/-- Output bit carrying read/write. -/
def PIN_RW : Nat := 1
/-- Output bit carrying enable. -/
def PIN_EN : Nat := 2
/-- Output bit carrying backlight. -/
def PIN_BL : Nat := 3
/-- Output bits carrying the data nibble, least significant first (R56; order is the spec's decision D3). -/
def PIN_D4 : Nat := 4
def PIN_D5 : Nat := 5
def PIN_D6 : Nat := 6
def PIN_D7 : Nat := 7

/-- Masks derived from the pin mapping (R39). -/
def M_RS : Byte := 0x01
def M_RW : Byte := 0x02
def M_EN : Byte := 0x04
def M_BL : Byte := 0x08
def M_DATA : Byte := 0xF0

/-- Columns per row of the character buffer. -/
def COLS : Nat := 40
/-- Rows. -/
def ROWS : Nat := 2
/-- RAM address of row 1, column 0. -/
def ROW1_BASE : Nat := 0x40

/-! ### Free values

Constants with no body: nothing in Lean can say what they are. -/

/-- An answer of the environment to one request: `good` is `READY` for a probe and `DONE` for a write,
`bad` is `NOT_READY` and `FAIL` (R51, R52; the spec's decision D6). -/
inductive Reply where
  | good
  | bad
  deriving DecidableEq, Repr, Inhabited

/-- The environment's answer to a request made after the scripted answers are used up, one per value of
the draw counter: a free draw on every request (U12). -/
opaque freeReply : Nat → Reply

/-- The value a read stub returns, one per value of the draw counter: any value (U1, R170, R171). -/
opaque freeRead : Nat → Byte

/-- The 7-bit bus address: OPEN, the source gives no number (D4). -/
opaque freeBusAddr7 : BitVec 7
/-- The time-out given to every probe: OPEN, value and unit (D5); that it is a natural number is the model's choice
(R38 gives no width, D5 calls it opaque; log 36). -/
opaque freeTProbe : Nat
/-- The time-out given to every write: OPEN, value and unit (D5), a natural number as the model's choice (log 36). -/
opaque freeTWrite : Nat
/-- The wait the host keeps between operations: OPEN, the host's (D22), a natural number as the model's choice
(log 36). -/
opaque freeTSettle : Nat

/-! ### Open parameters -/

/-- The open parameters of one instance of the hardware (R7). No operation changes them (R38).
`INIT_RAW` and `INIT_DELAYS` are held in parts, so that the constraints of R173 and D15 on them hold for
every value: see `Params.initRaw`, `Params.initDelays`. -/
structure Params where
  /-- `BUS_ADDR7` (D4). -/
  busAddr7 : BitVec 7
  /-- `T_PROBE` (D5): its type, which the spec leaves open, is the model's choice (log 36). -/
  tProbe : Nat
  /-- `T_WRITE` (D5): its type is the model's choice too (log 36). -/
  tWrite : Nat
  /-- `FACADE_BL`, passed by every façade operation (D11, R182). -/
  facadeBl : Bit
  /-- `INIT_DELAYS[0]`, the power-up wait (R172). -/
  initPowerUp : Nat
  /-- The bytes that make up the three 8-bit function-set pulses, each with the delay after it (R173). -/
  initPulses : List (Byte × Nat)
  /-- The seven bits, besides enable, of the two bytes of the 4-bit-mode switch; its enable bit is not
  used (R173). -/
  initSwitch : Byte
  /-- The delay after the switch's enable-high byte and after its enable-low byte. -/
  initSwitchHiDelay : Nat
  initSwitchLoDelay : Nat
  /-- The delay after each of the four transmissions of the standard part (R172, R174). -/
  initFuncDelay : Nat
  initDispDelay : Nat
  initClearDelay : Nat
  initEntryDelay : Nat
  /-- `T_SETTLE`: the host's; no operation of the encoder reads it (D22, R233); type: log 36. -/
  tSettle : Nat
  deriving DecidableEq, Repr

/-- `BUS_ADDR = {BUS_ADDR7, 0}` (R53). -/
def Params.busAddr (p : Params) : Byte := p.busAddr7 ++ 0#1

/-- The raw writes of the preamble in order, each with the delay after it: the pulses, then `s1` with
enable set, then `s2 = s1 & ~0x04` (R172, R173). -/
def Params.initSteps (p : Params) : List (Byte × Nat) :=
  p.initPulses ++
    [(p.initSwitch ||| M_EN, p.initSwitchHiDelay), (p.initSwitch &&& ~~~M_EN, p.initSwitchLoDelay)]

/-- `INIT_RAW`, the raw output bytes of the preamble (R173). -/
def Params.initRaw (p : Params) : List Byte := p.initSteps.map Prod.fst

/-- `INIT_DELAYS`: one delay before the first raw write, one after each raw write and one after each of
the four transmissions (R175). -/
def Params.initDelays (p : Params) : List Nat :=
  p.initPowerUp :: p.initSteps.map Prod.snd ++
    [p.initFuncDelay, p.initDispDelay, p.initClearDelay, p.initEntryDelay]

/-- The parameters at reset (log 16). Where the spec gives a default a model may take (`FACADE_BL` in D11,
`INIT_RAW` in G2, `INIT_DELAYS` in G3) it is that one, PRESUMED; elsewhere a free value. -/
def Params.initial : Params where
  busAddr7 := freeBusAddr7
  tProbe := freeTProbe
  tWrite := freeTWrite
  facadeBl := 1
  initPowerUp := 50
  initPulses := [(0x3C, 1), (0x38, 5), (0x3C, 1), (0x38, 1), (0x3C, 1), (0x38, 1)]
  initSwitch := 0x28
  initSwitchHiDelay := 1
  initSwitchLoDelay := 1
  initFuncDelay := 1
  initDispDelay := 1
  initClearDelay := 2
  initEntryDelay := 1
  tSettle := freeTSettle

end Sys2Proof.Config
end

