-- ==== Sys2Proof/Syntax.lean ====
section
/-! DEFINITION. The instructions: one constructor per row of spec/opcode_table.json. -/

namespace Sys2Proof

/-- The device handle, opaque (R26): the bytes of whatever reference the host passes, of any length. -/
abbrev Handle := List Byte

/-- The operations of the encoder: the eleven builder functions (spec/40_instruction_word_builder.md), the
five core operations, the six façade operations (spec/30_encoding.md R85) and the output-byte format
(R83, R84). -/
inductive Instr where
  /-- `IW.CLEAR()` (R111). -/
  | iwClear
  /-- `IW.HOME()` (R112). -/
  | iwHome
  /-- `IW.ENTRY(inc, sh)` (R113). -/
  | iwEntry (inc sh : Bit)
  /-- `IW.DISP(d, c, b)` (R114). -/
  | iwDisp (d c b : Bit)
  /-- `IW.SHIFT(sd, r)` (R115). -/
  | iwShift (sd r : Bit)
  /-- `IW.FUNC(n, f)` (R116). -/
  | iwFunc (n f : Bit)
  /-- `IW.CGADDR(a)` (R117): the operand is a `u8`, masked to 6 bits. -/
  | iwCgaddr (a : Byte)
  /-- `IW.DDADDR(a)` (R118): the operand is a `u8`, masked to 7 bits. -/
  | iwDdaddr (a : Byte)
  /-- `IW.WDATA(d)` (R119). -/
  | iwWdata (d : Byte)
  /-- `IW.RBUSY()` (R121). -/
  | iwRbusy
  /-- `IW.RDATA()` (R120). -/
  | iwRdata
  /-- `XMIT iw, bl` (R130). -/
  | xmit (iw : Storage) (bl : Bit)
  /-- `MOVE x, y, bl` (R150): `x` and `y` are `s8`. -/
  | move (x y : Byte) (bl : Bit)
  /-- `SHIFT mode, dir, bl` (R157). -/
  | shift (mode : Bit) (dir : Byte) (bl : Bit)
  /-- `RDDATA` (R170). -/
  | rddata
  /-- `RDBUSY` (R171). -/
  | rdbusy
  /-- `INIT handle` (R172). -/
  | init (h : Handle)
  /-- `CLEAR` (R177). -/
  | clear
  /-- `MOVECURSOR x, y` (R178): `x` and `y` are `s8`. -/
  | movecursor (x y : Byte)
  /-- `SHOWCHAR c` (R179). -/
  | showchar (c : Byte)
  /-- `SHOWSTR s` (R180): a finite list of `u8`. -/
  | showstr (cs : List Byte)
  /-- `SHIFTDISPLAY right` (R181). -/
  | shiftdisplay (right : Bit)
  /-- `OB`, the output byte by its fields `nnnnbewr` (R83, R84). -/
  | ob (n : BitVec 4) (bl en rw rs : Bit)
  deriving DecidableEq, Repr

end Sys2Proof
end

