-- ==== Sys2Proof/WellFormed.lean ====
section
/-! DEFINITION. The check of well-formed instructions: those whose every operand bit has a place in the
encoding. Operand widths are types, so what is left to check are the two masked addresses
(spec/30_encoding.md R87). -/

namespace Sys2Proof

/-- `i` is recovered whole from its encoding. `IW.CGADDR` and `IW.DDADDR` take any `u8` but encode only its
low 6 and 7 bits (R87, R122): an operand with a bit above the mask is legal to execute and is not
well-formed as an encoded instruction. -/
def Instr.wellFormed (i : Instr) : Bool :=
  match i with
  | .iwClear => true
  | .iwHome => true
  | .iwEntry _ _ => true
  | .iwDisp _ _ _ => true
  | .iwShift _ _ => true
  | .iwFunc _ _ => true
  | .iwCgaddr a => decide (a.toNat < 64)
  | .iwDdaddr a => decide (a.toNat < 128)
  | .iwWdata _ => true
  | .iwRbusy => true
  | .iwRdata => true
  | .xmit _ _ => true
  | .move _ _ _ => true
  | .shift _ _ _ => true
  | .rddata => true
  | .rdbusy => true
  | .init _ => true
  | .clear => true
  | .movecursor _ _ => true
  | .showchar _ => true
  | .showstr _ => true
  | .shiftdisplay _ => true
  | .ob _ _ _ _ _ => true

/-- `i` with the operand bits that its encoding drops cleared: what can be recovered from a result (R122). -/
def Instr.canonical (i : Instr) : Instr :=
  match i with
  | .iwCgaddr a => .iwCgaddr (a &&& 0x3F)
  | .iwDdaddr a => .iwDdaddr (a &&& 0x7F)
  | .iwClear => .iwClear
  | .iwHome => .iwHome
  | .iwEntry inc sh => .iwEntry inc sh
  | .iwDisp d c b => .iwDisp d c b
  | .iwShift sd r => .iwShift sd r
  | .iwFunc n f => .iwFunc n f
  | .iwWdata d => .iwWdata d
  | .iwRbusy => .iwRbusy
  | .iwRdata => .iwRdata
  | .xmit iw bl => .xmit iw bl
  | .move x y bl => .move x y bl
  | .shift mode dir bl => .shift mode dir bl
  | .rddata => .rddata
  | .rdbusy => .rdbusy
  | .init h => .init h
  | .clear => .clear
  | .movecursor x y => .movecursor x y
  | .showchar c => .showchar c
  | .showstr cs => .showstr cs
  | .shiftdisplay right => .shiftdisplay right
  | .ob n bl en rw rs => .ob n bl en rw rs

end Sys2Proof
end

