-- ==== Sys2Proof/Decode.lean ====
section
/-! DEFINITION. Requests as the host presents them, the decoder (total on any bytes, rejecting by name) and
the encoder. The word encodings are those of spec/30_encoding.md R91; the byte form of a CMD record is the
model's own (log 4), since the source defines none (R85, D1). -/

namespace Sys2Proof

/-- The three formats of R80. -/
inductive Format where
  /-- An instruction word: names a builder function and its operands (R91, R122). -/
  | iw
  /-- An operation request (R85). -/
  | cmd
  /-- An output byte (R83). -/
  | ob
  deriving DecidableEq, Repr

/-- A request: its format and its bytes, first byte first. -/
structure Request where
  format : Format
  bytes : List Byte
  deriving DecidableEq, Repr

/-- Why the decoder rejects a request. -/
inductive DecodeError where
  /-- No builder function produces this word (R93, R94). -/
  | noFunction (w : Word)
  /-- The selector selects nothing (U10, R85). -/
  | noOperation (sel : Byte)
  /-- The record holds more or fewer operand bytes than its operation takes. -/
  | operandCount (sel : Byte)
  /-- A `u1` operand is neither 0 nor 1. -/
  | badFlag (b : Byte)
  /-- An IW request that is not two bytes, an OB request that is not one, or a CMD record with no selector. -/
  | badLength
  deriving DecidableEq, Repr

/-! ### Format IW -/

/-- One row of the opcode map of R91: a word `w` is in the row's image when `w & mask = value`. -/
structure IwRow where
  value : Word
  mask : Word
  /-- The function and operands a word of the row stands for. -/
  read : Word → Instr

/-- `w` is in the row's image. -/
def IwRow.fits (r : IwRow) (w : Word) : Bool := w &&& r.mask == r.value

/-- Bit `k` of a word as a `u1`. -/
def bitOf (w : Word) (k : Nat) : Bit := w.extractLsb' k 1

/-- The opcode map of R91, in its order. -/
def iwRows : List IwRow := [
  ⟨0x001, 0x3FF, fun _ => .iwClear⟩,
  ⟨0x002, 0x3FF, fun _ => .iwHome⟩,
  ⟨0x004, 0x3FC, fun w => .iwEntry (bitOf w 1) (bitOf w 0)⟩,
  ⟨0x008, 0x3F8, fun w => .iwDisp (bitOf w 2) (bitOf w 1) (bitOf w 0)⟩,
  ⟨0x010, 0x3F3, fun w => .iwShift (bitOf w 3) (bitOf w 2)⟩,
  ⟨0x020, 0x3F3, fun w => .iwFunc (bitOf w 3) (bitOf w 2)⟩,
  ⟨0x040, 0x3C0, fun w => .iwCgaddr ((w.extractLsb' 0 6).setWidth 8)⟩,
  ⟨0x080, 0x380, fun w => .iwDdaddr ((w.extractLsb' 0 7).setWidth 8)⟩,
  ⟨0x200, 0x300, fun w => .iwWdata (w.extractLsb' 0 8)⟩,
  ⟨0x100, 0x3FF, fun _ => .iwRbusy⟩,
  ⟨0x300, 0x3FF, fun _ => .iwRdata⟩]

/-- The builder function and operands an instruction word stands for, if any (R92, R122). -/
def decodeWord (w : Word) : Option Instr := (iwRows.find? (·.fits w)).map (·.read w)

/-- A word in its storage: two bytes, the less significant first; bits 15:10 are ignored (R82, R95). -/
def decodeIw (bs : List Byte) : Except DecodeError Instr :=
  match bs with
  | [lo, hi] =>
    let w : Word := (hi.extractLsb' 0 2 ++ lo : BitVec 10)
    match decodeWord w with
    | some i => .ok i
    | none => .error (.noFunction w)
  | _ => .error .badLength

/-! ### Format OB -/

/-- The fields of an output byte (R83). -/
def decodeOb (bs : List Byte) : Except DecodeError Instr :=
  match bs with
  | [b] => .ok (.ob (b.extractLsb' 4 4) (b.extractLsb' 3 1) (b.extractLsb' 2 1) (b.extractLsb' 1 1)
      (b.extractLsb' 0 1))
  | _ => .error .badLength

/-! ### Format CMD -/

/-- A `u1` operand byte. -/
def flagOf (b : Byte) : Except DecodeError Bit :=
  if b = 0 then .ok 0 else if b = 1 then .ok 1 else .error (.badFlag b)

/-- `iw : u16` as two bytes, the less significant first, then `bl : u1`. -/
def readXmit (ops : List Byte) : Except DecodeError Instr :=
  match ops with
  | [lo, hi, bl] => (flagOf bl).map fun b => .xmit (hi ++ lo) b
  | _ => .error (.operandCount 0)

/-- `x : s8`, `y : s8`, `bl : u1`. -/
def readMove (ops : List Byte) : Except DecodeError Instr :=
  match ops with
  | [x, y, bl] => (flagOf bl).map fun b => .move x y b
  | _ => .error (.operandCount 1)

/-- `mode : u1`, `dir : u8`, `bl : u1`. -/
def readShift (ops : List Byte) : Except DecodeError Instr :=
  match ops with
  | [mode, dir, bl] => (flagOf mode).bind fun m => (flagOf bl).map fun b => .shift m dir b
  | _ => .error (.operandCount 2)

/-- No operands. -/
def readNone (sel : Byte) (i : Instr) (ops : List Byte) : Except DecodeError Instr :=
  match ops with
  | [] => .ok i
  | _ => .error (.operandCount sel)

/-- `x : s8`, `y : s8`. -/
def readMovecursor (ops : List Byte) : Except DecodeError Instr :=
  match ops with
  | [x, y] => .ok (.movecursor x y)
  | _ => .error (.operandCount 10)

/-- `c : u8`. -/
def readShowchar (ops : List Byte) : Except DecodeError Instr :=
  match ops with
  | [c] => .ok (.showchar c)
  | _ => .error (.operandCount 11)

/-- `right : u1`. -/
def readShiftdisplay (ops : List Byte) : Except DecodeError Instr :=
  match ops with
  | [right] => (flagOf right).map .shiftdisplay
  | _ => .error (.operandCount 13)

/-- A CMD record: the selector byte (R85), then the operands in their order; the handle and the string are all the
bytes that follow. -/
def decodeCmd (bs : List Byte) : Except DecodeError Instr :=
  match bs with
  | [] => .error .badLength
  | sel :: ops =>
    if sel = 0 then readXmit ops
    else if sel = 1 then readMove ops
    else if sel = 2 then readShift ops
    else if sel = 3 then readNone 3 .rddata ops
    else if sel = 4 then readNone 4 .rdbusy ops
    else if sel = 8 then .ok (.init ops)
    else if sel = 9 then readNone 9 .clear ops
    else if sel = 10 then readMovecursor ops
    else if sel = 11 then readShowchar ops
    else if sel = 12 then .ok (.showstr ops)
    else if sel = 13 then readShiftdisplay ops
    else .error (.noOperation sel)

/-- The instruction a request stands for, or the reason there is none. -/
def decode (r : Request) : Except DecodeError Instr :=
  match r.format with
  | .iw => decodeIw r.bytes
  | .cmd => decodeCmd r.bytes
  | .ob => decodeOb r.bytes

/-! ### The encoder -/

/-- An instruction word in its storage, bits 15:10 zero (R82). -/
def iwRequest (w : Word) : Request := ⟨.iw, [w.extractLsb' 0 8, (w.extractLsb' 8 2).setWidth 8]⟩

/-- A CMD record. -/
def cmdRequest (sel : Byte) (ops : List Byte) : Request := ⟨.cmd, sel :: ops⟩

/-- The request an instruction is presented as: the patterns of R91 written most significant bit first,
the selectors of R85, the fields of R83. -/
def encode (i : Instr) : Request :=
  match i with
  | .iwClear => iwRequest 0b0000000001#10
  | .iwHome => iwRequest 0b0000000010#10
  | .iwEntry inc sh => iwRequest (0b00000001#8 ++ inc ++ sh)
  | .iwDisp d c b => iwRequest (0b0000001#7 ++ d ++ c ++ b)
  | .iwShift sd r => iwRequest (0b000001#6 ++ sd ++ r ++ 0b00#2)
  | .iwFunc n f => iwRequest (0b000010#6 ++ n ++ f ++ 0b00#2)
  | .iwCgaddr a => iwRequest (0b0001#4 ++ a.extractLsb' 0 6)
  | .iwDdaddr a => iwRequest (0b001#3 ++ a.extractLsb' 0 7)
  | .iwWdata d => iwRequest (0b10#2 ++ d)
  | .iwRbusy => iwRequest 0b0100000000#10
  | .iwRdata => iwRequest 0b1100000000#10
  | .xmit iw bl => cmdRequest 0 [iw.extractLsb' 0 8, iw.extractLsb' 8 8, bl.setWidth 8]
  | .move x y bl => cmdRequest 1 [x, y, bl.setWidth 8]
  | .shift mode dir bl => cmdRequest 2 [mode.setWidth 8, dir, bl.setWidth 8]
  | .rddata => cmdRequest 3 []
  | .rdbusy => cmdRequest 4 []
  | .init h => cmdRequest 8 h
  | .clear => cmdRequest 9 []
  | .movecursor x y => cmdRequest 10 [x, y]
  | .showchar c => cmdRequest 11 [c]
  | .showstr cs => cmdRequest 12 cs
  | .shiftdisplay right => cmdRequest 13 [right.setWidth 8]
  | .ob n bl en rw rs => ⟨.ob, [n ++ bl ++ en ++ rw ++ rs]⟩

/-- A request with the bits that nothing reads cleared: bits 15:10 of an instruction word's storage (R95). -/
def Request.canonical (r : Request) : Request :=
  match r.format, r.bytes with
  | .iw, [lo, hi] => ⟨.iw, [lo, hi &&& 0x03]⟩
  | _, _ => r

/-! ### The opcode table's words -/

/-- How many operand bytes of zeros stand for "no operands given" after each selector (log 5). -/
def operandBytes (sel : Nat) : Nat :=
  match sel with
  | 0 => 3
  | 1 => 3
  | 2 => 3
  | 10 => 2
  | 11 => 1
  | 13 => 1
  | _ => 0

/-- The request whose bits spec/opcode_table.json numbers as `w`, `nbits` of them. The table's IW rows have
10 bits (two bytes), its CMD rows a selector of 4 bits (one byte) and its OB row 8 bits: one byte below 16
is a selector with operands of zeros, any other single byte is an output byte (log 5). -/
def tableRequest (nbits w : Nat) : Request :=
  if 8 < nbits then ⟨.iw, [BitVec.ofNat 8 w, BitVec.ofNat 8 (w / 256)]⟩
  else if w < 16 then cmdRequest (BitVec.ofNat 8 w) (List.replicate (operandBytes w) 0)
  else ⟨.ob, [BitVec.ofNat 8 w]⟩

/-- The instruction the decoder reads from an opcode-table word. -/
def decodeTableWord (nbits w : Nat) : Option Instr :=
  match decode (tableRequest nbits w) with
  | .ok i => some i
  | .error _ => none

end Sys2Proof
end

