-- ==== Sys2Proof/Machine/Operands.lean ====
section
/-! DEFINITION. Operand forms and field assembly: the nibbles of a word, the composition of the output byte from
the pin mapping (spec/30_encoding.md R83, R84, R90), the storage of a word (R82), the checks on the
operands of `MOVE` and `SHIFT` (spec/42_position_tracker.md R150, R157). -/

namespace Sys2Proof.Machine

open Sys2Proof.Config

/-- Which half of the payload a byte carries (R84). -/
inductive Half where
  | hi
  | lo
  deriving DecidableEq, Repr

/-- `nib(w, h)`: `w[7:4]` or `w[3:0]` (R84). -/
def nib (w : Word) (h : Half) : BitVec 4 :=
  match h with
  | .hi => w.extractLsb' 4 4
  | .lo => w.extractLsb' 0 4

/-- `RS`, bit 9 of the word (R81). -/
def rsBit (w : Word) : Bit := w.extractLsb' 9 1

/-- `RW`, bit 8 of the word (R81). -/
def rwBit (w : Word) : Bit := w.extractLsb' 8 1

/-- One signal on output line `pin`. -/
def onLine (v : Bit) (pin : Nat) : Byte := (v.setWidth 8) <<< pin

/-- An output byte from its eight signals, each on the line the pin mapping gives it (R38, R56, R68). -/
def composeByte (n : BitVec 4) (bl en rw rs : Bit) : Byte :=
  onLine (n.extractLsb' 3 1) PIN_D7 ||| onLine (n.extractLsb' 2 1) PIN_D6 |||
    onLine (n.extractLsb' 1 1) PIN_D5 ||| onLine (n.extractLsb' 0 1) PIN_D4 |||
    onLine bl PIN_BL ||| onLine en PIN_EN ||| onLine rw PIN_RW ||| onLine rs PIN_RS

/-- `OB(w, bl, h, en)` (R84). -/
def outByte (w : Word) (bl : Bit) (h : Half) (en : Bit) : Byte :=
  composeByte (nib w h) bl en (rwBit w) (rsBit w)

/-- A word in its storage, bits 15:10 zero (R82). -/
def storageOf (w : Word) : Storage := w.setWidth 16

/-- The word in a storage: bits 9:0, the rest ignored (R82, R95). -/
def wordOf (iw : Storage) : Word := iw.extractLsb' 0 10

/-- An `s8` operand as an integer (R150). -/
def signedOf (v : Byte) : Int := v.toInt

/-- `MOVE`'s check: `0 <= x < 40` and `0 <= y < 2` (R150, R151). -/
def inRange (x y : Byte) : Bool :=
  decide (0 ≤ signedOf x ∧ signedOf x < (COLS : Int) ∧ 0 ≤ signedOf y ∧ signedOf y < (ROWS : Int))

/-- `SHIFT`'s check: the direction is 0 or 1 (R157). -/
def legalDirection (dir : Byte) : Bool := dir == 0 || dir == 1

/-- `zext_8` of a `u1` (R181). -/
def zext8 (b : Bit) : Byte := b.setWidth 8

end Sys2Proof.Machine
end

