-- ==== Sys2Proof/Machine/State.lean ====
section
/-! DEFINITION. The state of the machine (spec/10_state.md), the reasons a step can stop, and the state after
reset (R41, R220). -/

namespace Sys2Proof.Machine

open Sys2Proof.Config (Reply Params)

/-- The sequencer's six values (R27): what the next bus transaction is. -/
inductive Seq where
  /-- None; no operation in progress. -/
  | idle
  /-- The readiness probe. -/
  | probe
  /-- The high nibble with enable set. -/
  | hnHi
  /-- The high nibble with enable clear. -/
  | hnLo
  /-- The low nibble with enable set. -/
  | lnHi
  /-- The low nibble with enable clear. -/
  | lnLo
  deriving DecidableEq, Repr

/-- The statuses an operation ends with (R31, R190). -/
inductive Status where
  | ok
  | busNotReady
  | busWriteFailure
  | invalidParameter
  deriving DecidableEq, Repr

/-- The answers of `BusProbe` (R51). -/
inductive ProbeAnswer where
  | ready
  | notReady
  deriving DecidableEq, Repr

/-- The answers of `BusWrite` (R52). -/
inductive WriteAnswer where
  | done
  | fail
  deriving DecidableEq, Repr

/-- One element of `TRACE` (R33). -/
inductive BusEvent where
  | probe (answer : ProbeAnswer)
  | write (byte : Byte) (answer : WriteAnswer)
  deriving DecidableEq, Repr

/-- One request made of an external service, with its arguments: the transport's probe and write, made
through the device handle (R26, R51 to R54), and the Delay primitive (R175, R203). The model's own
bookkeeping (log 24). -/
inductive ServiceCall where
  | probe (handle : Handle) (addr : Byte) (timeout : Nat)
  | write (handle : Handle) (addr : Byte) (byte : Byte) (timeout : Nat)
  | delay (ms : Nat)
  deriving DecidableEq, Repr

/-- A value an operation returns beside its status (log 7). -/
inductive Value where
  /-- A builder's instruction word, in its storage (R82, R110). -/
  | word (w : Storage)
  /-- A read stub's value (R170, R171) or an output byte (R84). -/
  | byte (b : Byte)
  deriving DecidableEq, Repr

/-- Everything the spec gives the machine, the configuration of the instance, and the model's own inputs and
bookkeeping. -/
structure State where
  /-- The open parameters of this instance; never changed (R38). -/
  cfg : Params
  /-- `CUR_X`, the column of the Cursor Position (R21). -/
  curX : BitVec 6
  /-- `CUR_Y`, the row of the Cursor Position (R22). -/
  curY : BitVec 1
  /-- `OFFSET`, the Display Offset (R23). -/
  offset : BitVec 6
  /-- `HANDLE`, the device handle (R26). Every probe and write carries it; what one carries before the first `INIT` the
spec does not say, and the model's choice is this field's value (log 35). -/
  handle : Handle
  /-- `HANDLE_SET`, its validity bit (R26). -/
  handleSet : Bool
  /-- `SEQ`, the sequencer (R27). -/
  seq : Seq
  /-- `IWR`, the latched instruction word (R28). -/
  iwr : Word
  /-- `BLR`, the latched backlight flag (R29). -/
  blr : Bit
  /-- `OBR`, the output byte being presented (R30). -/
  obr : Byte
  /-- `STATUS`, the result of the last operation; none before one has ended (R31, R41). -/
  status : Option Status
  /-- The value returned by the last operation that returns one (log 7). -/
  result : Option Value
  /-- `EXP`, the expander's output latch (R32, R206). -/
  exp : Byte
  /-- `TRACE`, the bus transactions since reset, oldest first (R33). -/
  trace : List BusEvent
  /-- The requests made of the external services since reset, oldest first (log 24). -/
  calls : List ServiceCall
  /-- The environment's answers to the next requests, oldest first; past its end the answers are free
  values (R52, U12; log 1). -/
  replies : List Reply
  /-- The counter free values are drawn at (log 1, log 2). -/
  draws : Nat
  /-- The operations the host will present, oldest first (R50, R61; log 3). -/
  requests : List Request
  deriving DecidableEq, Repr

/-- Faults. None: "No other exception exists" beside the three statuses, and a status is a next state (R195;
log 26). -/
inductive Fault where
  deriving DecidableEq, Repr

/-- Why a step is refused. -/
inductive Refusal where
  /-- An instruction that has no meaning yet, by its mnemonic: raised by no arm of `exec`. Safe. -/
  | notModelled (mnemonic : String)
  /-- A second operation presented while one is in progress: raised by `exec` for every core and façade
  operation when `SEQ` is not `IDLE` (R207, U2: "Refuse: the host has no such move"). Safe. -/
  | operationInProgress
  /-- A façade operation other than `INIT` before the first `INIT`: raised by `exec` for `CLEAR`, `MOVECURSOR`,
  `SHOWCHAR`, `SHOWSTR`, `SHIFTDISPLAY` while `HANDLE_SET = 0` (R182, U3: "Refuse"). Safe. -/
  | notInitialised
  /-- A request that is no operation: raised by `step` when the decoder rejects the request (R85, R93, U10:
  "Refuse: not part of the request type"). Safe. -/
  | undecodable (e : DecodeError)
  deriving DecidableEq, Repr

/-- The machine right after reset (R41, R220). The spec gives `CUR_X`, `CUR_Y`, `OFFSET`, `HANDLE_SET`, `SEQ`,
`STATUS` and `TRACE`; the others are the model's choice: `HANDLE`, `IWR`, `BLR`, `OBR` (log 13), `EXP` (log 14),
the parameters (log 16), the model's own fields (log 1, 3, 7, 24). -/
def State.reset : State where
  cfg := Params.initial
  curX := 0
  curY := 0
  offset := 0
  handle := []
  handleSet := false
  seq := .idle
  iwr := 0
  blr := 0
  obr := 0
  status := none
  result := none
  exp := 0xFF
  trace := []
  calls := []
  replies := []
  draws := 0
  requests := []

end Sys2Proof.Machine
end

