-- ==== Sys2Proof/Machine/Ops.lean ====
section
/-! DEFINITION. The shared operations: the environment's answers, the two bus primitives
(spec/20_memory.md R51, R52), the Delay primitive (R175), ending an operation with an error status
(spec/60_exceptions.md R196) or with `OK`, and the conditions under which the port accepts an operation. -/

namespace Sys2Proof.Machine

open Sys2Proof.Config (Reply)

/-- The answer the environment gives to the `k`-th request from now: the scripted one, or a free value past
the script's end (R52, U12). -/
def State.answerAt (s : State) (k : Nat) : Reply :=
  (s.replies[k]?).getD (Config.freeReply (s.draws + (k - s.replies.length)))

/-- The state after the environment has given its next `n` answers. -/
def State.consume (n : Nat) (s : State) : State :=
  { s with replies := s.replies.drop n, draws := s.draws + (n - s.replies.length) }

/-- `emit e`: append an event to `TRACE` (R9, R33). -/
def State.emit (e : BusEvent) (s : State) : State := { s with trace := s.trace ++ [e] }

/-- Record a request made of an external service (log 24). -/
def State.record (c : ServiceCall) (s : State) : State := { s with calls := s.calls ++ [c] }

/-- `READY` or `NOT_READY` (R51). -/
def probeAnswer (r : Reply) : ProbeAnswer :=
  match r with
  | .good => .ready
  | .bad => .notReady

/-- `DONE` or `FAIL` (R52). -/
def writeAnswer (r : Reply) : WriteAnswer :=
  match r with
  | .good => .done
  | .bad => .fail

/-- `BusProbe(BUS_ADDR, T_PROBE)` (R51, R53, R54): the answer, and the state after it. `EXP` is unchanged. The call
carries what `HANDLE` holds; that it does so before the first `INIT` too is the model's choice (log 35). -/
def busProbe (s : State) : ProbeAnswer × State :=
  let a := probeAnswer (s.answerAt 0)
  (a, ((s.consume 1).emit (.probe a)).record (.probe s.handle s.cfg.busAddr s.cfg.tProbe))

/-- What the expander's latch holds after a write of `b`: `b` on `DONE`, the old byte on `FAIL` (R32, R52;
log 18). -/
def latchAfter (b : Byte) (a : WriteAnswer) (old : Byte) : Byte :=
  match a with
  | .done => b
  | .fail => old

/-- `BusWrite(BUS_ADDR, b, T_WRITE)` (R52, R53, R54): the answer, and the state after it. The handle it carries is as for
`busProbe` (log 35). -/
def busWrite (b : Byte) (s : State) : WriteAnswer × State :=
  let a := writeAnswer (s.answerAt 0)
  let t := ((s.consume 1).emit (.write b a)).record (.write s.handle s.cfg.busAddr b s.cfg.tWrite)
  (a, { t with exp := latchAfter b a s.exp })

/-- `Delay(ms)`: always returns, changes no state of the encoder and nothing in `TRACE` (R175, D24). -/
def delay (ms : Nat) (s : State) : State := s.record (.delay ms)

/-- `raise S`: the operation ends at once with status `S`, `SEQ <- IDLE`, nothing is saved or restored (R196).
This is the hardware's only exception, and it has no return (R199). -/
def raise (st : Status) (s : State) : State := { s with seq := .idle, status := some st }

/-- `return OK` (R9). -/
def returnOk (s : State) : State := { s with status := some .ok }

/-- `return v` of an operation that returns a value. -/
def returnValue (v : Value) (s : State) : State := { s with result := some v }

/-- `s <- op; if s != OK then return s`: go on with `k` only if the operation that led to `s` ended with `OK`
(R172, R180, R198). -/
def ifOk (s : State) (k : State → State) : State := if s.status = some .ok then k s else s

/-- The port accepts an operation only between operations (R207, U2). -/
def whenIdle (s : State) (op : State → State) : Host.Outcome State Fault Refusal :=
  if s.seq = .idle then .next (op s) else .refused .operationInProgress

/-- A façade operation other than `INIT` also needs the handle (R182, U3). -/
def whenInitialised (s : State) (op : State → State) : Host.Outcome State Fault Refusal :=
  if s.seq = .idle then (if s.handleSet then .next (op s) else .refused .notInitialised)
  else .refused .operationInProgress

end Sys2Proof.Machine
end

