-- ==== Sys2Proof/Machine/Builder.lean ====
section
/-! DEFINITION. The Instruction Word Builder (spec/40_instruction_word_builder.md): eleven pure functions, and the
meaning of each as an operation the host calls, which returns the word and changes nothing else (R110).
The output byte (R84) is the twelfth pure function. -/

namespace Sys2Proof.Machine

/-- A `u1` operand at bit `k` of the word (R86). -/
def fieldAt (b : Bit) (k : Nat) : Word := (b.setWidth 10) <<< k

/-- `IW.CLEAR()` (R111). -/
def wordClear : Word := 0x001
/-- `IW.HOME()` (R112). -/
def wordHome : Word := 0x002
/-- `IW.ENTRY(inc, sh)` (R113). -/
def wordEntry (inc sh : Bit) : Word := 0x004 ||| fieldAt inc 1 ||| fieldAt sh 0
/-- `IW.DISP(d, c, b)` (R114). -/
def wordDisp (d c b : Bit) : Word := 0x008 ||| fieldAt d 2 ||| fieldAt c 1 ||| fieldAt b 0
/-- `IW.SHIFT(sd, r)` (R115). -/
def wordShift (sd r : Bit) : Word := 0x010 ||| fieldAt sd 3 ||| fieldAt r 2
/-- `IW.FUNC(n, f)` (R116). -/
def wordFunc (n f : Bit) : Word := 0x020 ||| fieldAt n 3 ||| fieldAt f 2
/-- `IW.CGADDR(a)` (R117). -/
def wordCgaddr (a : Byte) : Word := 0x040 ||| (a &&& 0x3F).setWidth 10
/-- `IW.DDADDR(a)` (R118). -/
def wordDdaddr (a : Byte) : Word := 0x080 ||| (a &&& 0x7F).setWidth 10
/-- `IW.WDATA(d)` (R119). -/
def wordWdata (d : Byte) : Word := 0x200 ||| d.setWidth 10
/-- `IW.RDATA()` (R120; the payload is the spec's decision D12). -/
def wordRdata : Word := 0x300
/-- `IW.RBUSY()` (R121; the payload is the spec's decision D12). -/
def wordRbusy : Word := 0x100

/-- A builder function as an operation: it returns its word, in storage, and does nothing else (R82, R110). -/
def returnWord (w : Word) (s : State) : Host.Outcome State Fault Refusal :=
  .next (returnValue (.word (storageOf w)) s)

/-- `IW.CLEAR` (R111). -/
def execIwClear (s : State) : Host.Outcome State Fault Refusal := returnWord wordClear s
/-- `IW.HOME` (R112). -/
def execIwHome (s : State) : Host.Outcome State Fault Refusal := returnWord wordHome s
/-- `IW.ENTRY` (R113). -/
def execIwEntry (inc sh : Bit) (s : State) : Host.Outcome State Fault Refusal :=
  returnWord (wordEntry inc sh) s
/-- `IW.DISP` (R114). -/
def execIwDisp (d c b : Bit) (s : State) : Host.Outcome State Fault Refusal := returnWord (wordDisp d c b) s
/-- `IW.SHIFT` (R115). -/
def execIwShift (sd r : Bit) (s : State) : Host.Outcome State Fault Refusal := returnWord (wordShift sd r) s
/-- `IW.FUNC` (R116). -/
def execIwFunc (n f : Bit) (s : State) : Host.Outcome State Fault Refusal := returnWord (wordFunc n f) s
/-- `IW.CGADDR` (R117). -/
def execIwCgaddr (a : Byte) (s : State) : Host.Outcome State Fault Refusal := returnWord (wordCgaddr a) s
/-- `IW.DDADDR` (R118). -/
def execIwDdaddr (a : Byte) (s : State) : Host.Outcome State Fault Refusal := returnWord (wordDdaddr a) s
/-- `IW.WDATA` (R119). -/
def execIwWdata (d : Byte) (s : State) : Host.Outcome State Fault Refusal := returnWord (wordWdata d) s
/-- `IW.RBUSY` (R121). -/
def execIwRbusy (s : State) : Host.Outcome State Fault Refusal := returnWord wordRbusy s
/-- `IW.RDATA` (R120). -/
def execIwRdata (s : State) : Host.Outcome State Fault Refusal := returnWord wordRdata s

/-- `OB`: the byte of the given signals, returned and not written to the bus (R80, R84; log 6). -/
def execOb (n : BitVec 4) (bl en rw rs : Bit) (s : State) : Host.Outcome State Fault Refusal :=
  .next (returnValue (.byte (composeByte n bl en rw rs)) s)

end Sys2Proof.Machine
end

