-- ==== Sys2Proof/Machine/Transmit.lean ====
section
/-! DEFINITION. The Nibble Transmitter (spec/41_nibble_transmitter.md): the sequencer, one transition per bus
transaction (R135), and `XMIT` (R130). -/

namespace Sys2Proof.Machine

/-- `XMIT` starts: latch the word and the flag, `SEQ <- PROBE` (R130). No status until it ends (R31). -/
def startXmit (iw : Storage) (bl : Bit) (s : State) : State :=
  { s with iwr := wordOf iw, blr := bl, seq := .probe, status := none }

/-- Put a byte in `OBR` and write it; on `DONE` go on as `k` says, on `FAIL` raise (R130, R135). -/
def present (b : Byte) (k : State → State) (s : State) : State :=
  match busWrite b { s with obr := b } with
  | (.done, t) => k t
  | (.fail, t) => raise .busWriteFailure t

/-- `SEQ <- q`. -/
def goto (q : Seq) (s : State) : State := { s with seq := q }

/-- One transition of the sequencer: one bus transaction and its answer (R135). -/
def seqAdvance (s : State) : State :=
  match s.seq with
  | .idle => s
  | .probe =>
    match busProbe s with
    | (.ready, t) => goto .hnHi t
    | (.notReady, t) => raise .busNotReady t
  | .hnHi => present (outByte s.iwr s.blr .hi 1) (goto .hnLo) s
  | .hnLo => present (s.obr &&& ~~~Config.M_EN) (goto .lnHi) s
  | .lnHi => present (outByte s.iwr s.blr .lo 1) (goto .lnLo) s
  | .lnLo => present (s.obr &&& ~~~Config.M_EN) (fun t => returnOk (goto .idle t)) s

/-- `n` transitions of the sequencer; an idle sequencer makes none. -/
def runSequencer : Nat → State → State
  | 0, s => s
  | n + 1, s => runSequencer n (seqAdvance s)

/-- `XMIT(iw, bl)`: the latch, then the probe and the four writes, stopping at the first failure (R130, R137). -/
def transmit (iw : Storage) (bl : Bit) (s : State) : State := runSequencer 5 (startXmit iw bl s)

/-- `XMIT` (R130). -/
def execXmit (iw : Storage) (bl : Bit) (s : State) : Host.Outcome State Fault Refusal :=
  whenIdle s (transmit iw bl)

end Sys2Proof.Machine
end

