-- ==== Sys2Proof/Machine/Tracker.lean ====
section
/-! DEFINITION. The Position Tracker (spec/42_position_tracker.md): the address computation (R71, R152), the four
shift updates (R153 to R156), `MOVE` (R150) and `SHIFT` (R157). Each checks, then updates the tracker, then
transmits (R158). -/

namespace Sys2Proof.Machine

open Sys2Proof.Config

/-- The display RAM address of logical column `x`, row `y`, on mathematical integers (R8, R71, R152). -/
def addrOf (x y offset : Int) : Int :=
  (if y = 1 then (ROW1_BASE : Int) else 0) + (0x27 - offset + 1 + x) % 0x28

/-- The address as the operand of `IW.DDADDR`. -/
def addrByte (x y offset : Int) : Byte := BitVec.ofInt 8 (addrOf x y offset)

/-- `MOVE(x, y, bl)` (R150). -/
def moveTo (x y : Byte) (bl : Bit) (s : State) : State :=
  if inRange x y then
    let t := { s with curX := x.setWidth 6, curY := y.setWidth 1 }
    transmit (storageOf (wordDdaddr (addrByte (signedOf x) (signedOf y) (t.offset.toNat : Int)))) bl t
  else raise .invalidParameter s

/-- Display-mode shift to the right: `OFFSET + 1` modulo 40 (R153; the sign is the spec's decision D8). -/
def offsetRight (s : State) : State := { s with offset := BitVec.ofNat 6 ((s.offset.toNat + 1) % 40) }

/-- Display-mode shift to the left: `OFFSET + 39` modulo 40 (R154). -/
def offsetLeft (s : State) : State := { s with offset := BitVec.ofNat 6 ((s.offset.toNat + 39) % 40) }

/-- Cursor-mode shift to the right (R155). -/
def cursorRight (s : State) : State :=
  if s.curX = 39 then { s with curX := 0, curY := 1 - s.curY } else { s with curX := s.curX + 1 }

/-- Cursor-mode shift to the left (R156). -/
def cursorLeft (s : State) : State :=
  if s.curX = 0 then { s with curX := 39, curY := 1 - s.curY } else { s with curX := s.curX - 1 }

/-- The tracker update of a shift with a legal direction (R153 to R157). -/
def shiftTracker (mode : Bit) (dir : Byte) (s : State) : State :=
  if mode = 1 then (if dir = 1 then offsetRight s else offsetLeft s)
  else (if dir = 1 then cursorRight s else cursorLeft s)

/-- `SHIFT(mode, dir, bl)` (R157). -/
def shiftBy (mode : Bit) (dir : Byte) (bl : Bit) (s : State) : State :=
  if legalDirection dir then
    transmit (storageOf (wordShift mode (dir.extractLsb' 0 1))) bl (shiftTracker mode dir s)
  else raise .invalidParameter s

/-- `MOVE` (R150). -/
def execMove (x y : Byte) (bl : Bit) (s : State) : Host.Outcome State Fault Refusal :=
  whenIdle s (moveTo x y bl)

/-- `SHIFT` (R157). -/
def execShift (mode : Bit) (dir : Byte) (bl : Bit) (s : State) : Host.Outcome State Fault Refusal :=
  whenIdle s (shiftBy mode dir bl)

end Sys2Proof.Machine
end

