-- ==== Sys2Proof/Machine/Facade.lean ====
section
/-! DEFINITION. The façade (spec/43_read_stubs_and_facade.md): `INIT` (R172 to R176) and the public operations
(R177 to R181), each an expansion into core operations with `bl = FACADE_BL` (R182). -/

namespace Sys2Proof.Machine

open Sys2Proof.Config (Params)

/-- The raw writes of the preamble: one `BusWrite` each, no probe, and the delay after it; a write answered
`FAIL` ends the operation (R172, R173). -/
def rawWrites : List (Byte × Nat) → State → State
  | [], s => returnOk s
  | (b, ms) :: rest, s =>
    match busWrite b s with
    | (.done, t) => rawWrites rest (delay ms t)
    | (.fail, t) => raise .busWriteFailure t

/-- Full transmissions in order, each followed by its delay, up to the first that does not end with `OK`
(R172). -/
def timedWords (bl : Bit) : List (Word × Nat) → State → State
  | [], s => returnOk s
  | (w, ms) :: rest, s => ifOk (transmit (storageOf w) bl s) fun t => timedWords bl rest (delay ms t)

/-- The standard part of the initialisation: Function Set (2 lines, 5x8), Display Control (on, on, off), Clear,
Entry Mode (increment, shift), each with the delay after it (R172, R174). -/
def initWords (p : Params) : List (Word × Nat) :=
  [(wordFunc 1 0, p.initFuncDelay), (wordDisp 1 1 0, p.initDispDelay), (wordClear, p.initClearDelay),
    (wordEntry 1 1, p.initEntryDelay)]

/-- `INIT(handle)` (R172). The tracker is not written (R176). -/
def initialiseDevice (h : Handle) (s : State) : State :=
  ifOk (rawWrites s.cfg.initSteps (delay s.cfg.initPowerUp { s with handle := h, handleSet := true }))
    (timedWords s.cfg.facadeBl (initWords s.cfg))

/-- `SHOWSTR(s)`: one write-data transmission per character, up to the first that does not end with `OK`
(R180). -/
def sendString (bl : Bit) : List Byte → State → State
  | [], s => returnOk s
  | c :: cs, s => ifOk (transmit (storageOf (wordWdata c)) bl s) (sendString bl cs)

/-- `INIT` (R172). -/
def execInit (h : Handle) (s : State) : Host.Outcome State Fault Refusal := whenIdle s (initialiseDevice h)

/-- `CLEAR` (R177). -/
def execClear (s : State) : Host.Outcome State Fault Refusal :=
  whenInitialised s (transmit (storageOf wordClear) s.cfg.facadeBl)

/-- `MOVECURSOR` (R178). -/
def execMovecursor (x y : Byte) (s : State) : Host.Outcome State Fault Refusal :=
  whenInitialised s (moveTo x y s.cfg.facadeBl)

/-- `SHOWCHAR` (R179). -/
def execShowchar (c : Byte) (s : State) : Host.Outcome State Fault Refusal :=
  whenInitialised s (transmit (storageOf (wordWdata c)) s.cfg.facadeBl)

/-- `SHOWSTR` (R180). -/
def execShowstr (cs : List Byte) (s : State) : Host.Outcome State Fault Refusal :=
  whenInitialised s (sendString s.cfg.facadeBl cs)

/-- `SHIFTDISPLAY` (R181). -/
def execShiftdisplay (right : Bit) (s : State) : Host.Outcome State Fault Refusal :=
  whenInitialised s (shiftBy 1 (zext8 right) s.cfg.facadeBl)

end Sys2Proof.Machine
end

