-- ==== Sys2Proof/Machine/Stubs.lean ====
section
/-! DEFINITION. The read stubs (spec/43_read_stubs_and_facade.md R170, R171): status `OK`, no bus transaction, and a
value that is any value (U1; log 2). -/

namespace Sys2Proof.Machine

/-- `v <- unspecified ; return OK`, with a fresh free value. -/
def stubRead (s : State) : State :=
  returnOk (returnValue (.byte (Config.freeRead s.draws)) { s with draws := s.draws + 1 })

/-- `RDDATA` (R170). -/
def execRddata (s : State) : Host.Outcome State Fault Refusal := whenIdle s stubRead

/-- `RDBUSY` (R171). -/
def execRdbusy (s : State) : Host.Outcome State Fault Refusal := whenIdle s stubRead

end Sys2Proof.Machine
end

