-- ==== Sys2Proof/Machine/Dispatch.lean ====
section
/-! DEFINITION. One arm per instruction, each a direct call of its meaning. -/

namespace Sys2Proof.Machine

def exec (i : Instr) (s : State) : Host.Outcome State Fault Refusal :=
  match i with
  -- the instruction word builder
  | .iwClear => Sys2Proof.Machine.execIwClear s
  | .iwHome => Sys2Proof.Machine.execIwHome s
  | .iwEntry inc sh => Sys2Proof.Machine.execIwEntry inc sh s
  | .iwDisp d c b => Sys2Proof.Machine.execIwDisp d c b s
  | .iwShift sd r => Sys2Proof.Machine.execIwShift sd r s
  | .iwFunc n f => Sys2Proof.Machine.execIwFunc n f s
  | .iwCgaddr a => Sys2Proof.Machine.execIwCgaddr a s
  | .iwDdaddr a => Sys2Proof.Machine.execIwDdaddr a s
  | .iwWdata d => Sys2Proof.Machine.execIwWdata d s
  | .iwRbusy => Sys2Proof.Machine.execIwRbusy s
  | .iwRdata => Sys2Proof.Machine.execIwRdata s
  -- the core operations
  | .xmit iw bl => Sys2Proof.Machine.execXmit iw bl s
  | .move x y bl => Sys2Proof.Machine.execMove x y bl s
  | .shift mode dir bl => Sys2Proof.Machine.execShift mode dir bl s
  | .rddata => Sys2Proof.Machine.execRddata s
  | .rdbusy => Sys2Proof.Machine.execRdbusy s
  -- the façade
  | .init h => Sys2Proof.Machine.execInit h s
  | .clear => Sys2Proof.Machine.execClear s
  | .movecursor x y => Sys2Proof.Machine.execMovecursor x y s
  | .showchar c => Sys2Proof.Machine.execShowchar c s
  | .showstr cs => Sys2Proof.Machine.execShowstr cs s
  | .shiftdisplay right => Sys2Proof.Machine.execShiftdisplay right s
  -- the output byte
  | .ob n bl en rw rs => Sys2Proof.Machine.execOb n bl en rw rs s

end Sys2Proof.Machine
end

