-- ==== Sys2Proof/Machine/Step.lean ====
section
/-! DEFINITION. One step of the machine, and the state in which the next step runs a given opcode-table word. -/

namespace Sys2Proof.Machine

/-- One step. While a transmission is in progress it is one transition of the sequencer (R27, R135). Between
operations it is the next operation the host presents, run whole (R50, R61), and nothing happens when the
host presents none (log 3). A request that is no operation is refused (U10). -/
def step (s : State) : Host.Outcome State Fault Refusal :=
  if s.seq = .idle then
    match s.requests with
    | [] => .next s
    | r :: rest =>
      match decode r with
      | .ok i => exec i { s with requests := rest }
      | .error e => .refused (.undecodable e)
  else .next (seqAdvance s)

/-- `s` with the request of an opcode-table word placed as the next one the host presents, and the port free to
take it. A program is a list of requests, loaded from outside the machine (log 3). -/
def State.withFetchWord (s : State) (nbits w : Nat) : State :=
  { s with seq := .idle, requests := tableRequest nbits w :: s.requests }

end Sys2Proof.Machine
end

