-- ==== Sys2Proof/Safety.lean ====
section
/-! DEFINITION. The terms the statements are made in: the invariants of the state, the transactions an operation is
to issue ("plan") read from the spec's tables and not from the meanings, and what issuing them up to the
first bad answer leaves (spec/41_nibble_transmitter.md R134, R135, R138; spec/60_exceptions.md R196). -/

namespace Sys2Proof.Machine

open Sys2Proof.Config (Reply Params)

/-! ### Invariants -/

/-- `0 <= CUR_X <= 39` and `0 <= OFFSET <= 39` (R24); `CUR_Y` is 0 or 1 by its width. -/
abbrev TrackerInRange (s : State) : Prop := s.curX.toNat ≤ 39 ∧ s.offset.toNat ≤ 39

/-- At the two writes that only clear enable, `OBR` holds the byte with enable set (R30). -/
abbrev LatchesConsistent (s : State) : Prop :=
  (s.seq = .hnLo → s.obr = outByte s.iwr s.blr .hi 1) ∧
  (s.seq = .lnLo → s.obr = outByte s.iwr s.blr .lo 1)

/-- `EXP` is unchanged or holds the last byte answered `DONE` (R32): the latch after a list of events. -/
def latchOf : List BusEvent → Byte → Byte
  | [], e => e
  | .write b .done :: evs, _ => latchOf evs b
  | .write _ .fail :: evs, e => latchOf evs e
  | .probe _ :: evs, e => latchOf evs e

/-! ### The bytes and words, from the spec's tables -/

/-- The control bits `c = (bl << 3) | (w[8] << 1) | w[9]` of R134. -/
def controlBits (w : Word) (bl : Bit) : Byte :=
  (bl.setWidth 8 <<< 3) ||| ((w.extractLsb' 8 1).setWidth 8 <<< 1) ||| (w.extractLsb' 9 1).setWidth 8

/-- The four bytes of one transmission, in the order they are sent (R134). -/
def bytesOf (w : Word) (bl : Bit) : List Byte :=
  let c := controlBits w bl
  let high : Byte := (w.extractLsb' 4 4).setWidth 8 <<< 4
  let low : Byte := (w.extractLsb' 0 4).setWidth 8 <<< 4
  [high ||| c ||| 0x04, high ||| c, low ||| c ||| 0x04, low ||| c]

/-- One bus transaction to be issued. -/
inductive Txn where
  | probe
  | write (b : Byte)
  deriving DecidableEq, Repr

/-- The transactions of one `XMIT` (R60, R135). -/
def xmitPlan (w : Word) (bl : Bit) : List Txn := .probe :: (bytesOf w bl).map .write

/-- The display RAM address of a logical position, in the second form of R152:
`64*y + ((40 - OFFSET + x) mod 40)`. -/
def ramAddress (x y : Byte) (s : State) : Nat :=
  (64 * y.toInt + (40 - (s.offset.toNat : Int) + x.toInt) % 40).toNat

/-- The operands `MOVE` and `SHIFT` accept (R151, R157); every other operation accepts all of its operands. -/
def operandsLegal (i : Instr) : Bool :=
  match i with
  | .move x y _ => decide (0 ≤ x.toInt ∧ x.toInt < 40 ∧ 0 ≤ y.toInt ∧ y.toInt < 2)
  | .movecursor x y => decide (0 ≤ x.toInt ∧ x.toInt < 40 ∧ 0 ≤ y.toInt ∧ y.toInt < 2)
  | .shift _ dir _ => decide (dir.toNat ≤ 1)
  | _ => true

/-- The operations of the command port (R85), core and façade: not the builder functions, not `OB`. -/
def isOperation (i : Instr) : Bool :=
  match i with
  | .xmit _ _ | .move _ _ _ | .shift _ _ _ | .rddata | .rdbusy | .init _ | .clear | .movecursor _ _
  | .showchar _ | .showstr _ | .shiftdisplay _ => true
  | _ => false

/-- The builder functions (R110). -/
def isBuilder (i : Instr) : Bool :=
  match i with
  | .iwClear | .iwHome | .iwEntry _ _ | .iwDisp _ _ _ | .iwShift _ _ | .iwFunc _ _ | .iwCgaddr _
  | .iwDdaddr _ | .iwWdata _ | .iwRbusy | .iwRdata => true
  | _ => false

/-- The façade operations other than `INIT` (R182, U3). -/
def needsHandle (i : Instr) : Bool :=
  match i with
  | .clear | .movecursor _ _ | .showchar _ | .showstr _ | .shiftdisplay _ => true
  | _ => false

/-- When the port accepts an operation: between operations, and for a façade operation other than `INIT` after
an `INIT` (R182, R207, U2, U3). -/
abbrev Accepts (i : Instr) (s : State) : Prop := s.seq = .idle ∧ (needsHandle i = true → s.handleSet = true)

/-- The transactions an operation with legal operands issues when every answer is good, in order. -/
def plan (i : Instr) (s : State) : List Txn :=
  match i with
  | .xmit iw bl => xmitPlan (iw.setWidth 10) bl
  | .move x y bl => xmitPlan (0x080 ||| BitVec.ofNat 10 (ramAddress x y s)) bl
  | .movecursor x y => xmitPlan (0x080 ||| BitVec.ofNat 10 (ramAddress x y s)) s.cfg.facadeBl
  | .shift mode dir bl => xmitPlan (0x010 ||| (mode.setWidth 10 <<< 3) ||| (dir.setWidth 10 <<< 2)) bl
  | .shiftdisplay right => xmitPlan (0x018 ||| (right.setWidth 10 <<< 2)) s.cfg.facadeBl
  | .clear => xmitPlan 0x001 s.cfg.facadeBl
  | .showchar c => xmitPlan (0x200 ||| c.setWidth 10) s.cfg.facadeBl
  | .showstr cs => cs.flatMap fun c => xmitPlan (0x200 ||| c.setWidth 10) s.cfg.facadeBl
  | .init _ => s.cfg.initRaw.map .write ++
      [0x028, 0x00E, 0x001, 0x007].flatMap fun w => xmitPlan w s.cfg.facadeBl
  | _ => []

/-! ### Issuing a plan -/

/-- The events of issuing transactions in order, the first answered by `ans k`, up to and with the first bad
answer (R137, R196). -/
def issue (ans : Nat → Reply) : Nat → List Txn → List BusEvent
  | _, [] => []
  | k, .probe :: ts =>
    match ans k with
    | .good => .probe .ready :: issue ans (k + 1) ts
    | .bad => [.probe .notReady]
  | k, .write b :: ts =>
    match ans k with
    | .good => .write b .done :: issue ans (k + 1) ts
    | .bad => [.write b .fail]

/-- The status of issuing them: `BusNotReady` at a probe answered badly, `BusWriteFailure` at a write (R192,
R193, R198). -/
def issueStatus (ans : Nat → Reply) : Nat → List Txn → Status
  | _, [] => .ok
  | k, .probe :: ts =>
    match ans k with
    | .good => issueStatus ans (k + 1) ts
    | .bad => .busNotReady
  | k, .write _ :: ts =>
    match ans k with
    | .good => issueStatus ans (k + 1) ts
    | .bad => .busWriteFailure

/-- The events an operation issues: none when its operands are refused (R194). -/
def expectedEvents (i : Instr) (s : State) : List BusEvent :=
  if operandsLegal i then issue s.answerAt 0 (plan i s) else []

/-- The status an operation ends with (R190 to R194). -/
def expectedStatus (i : Instr) (s : State) : Status :=
  if operandsLegal i then issueStatus s.answerAt 0 (plan i s) else .invalidParameter

/-! ### The tracker -/

/-- The three tracker registers. -/
def trackerOf (s : State) : BitVec 6 × BitVec 1 × BitVec 6 := (s.curX, s.curY, s.offset)

/-- The cursor as one number in the cycle of 80 positions (R163). -/
def cursorIndex (s : State) : Nat := 40 * s.curY.toNat + s.curX.toNat

/-! ### Repeating an instruction -/

/-- `n` runs of the same instruction, one after another. -/
def execTimes (i : Instr) : Nat → State → Host.Outcome State Fault Refusal
  | 0, s => .next s
  | n + 1, s =>
    match exec i s with
    | .next t => execTimes i n t
    | .fault r => .fault r
    | .refused r => .refused r

/-! ### How an operation ends -/

/-- The next `n` answers of the environment are all good. -/
abbrev AllGood (s : State) (n : Nat) : Prop := ∀ k, k < n → s.answerAt k = .good

/-- `exec i s` answers a next state in which `evs` is appended to `TRACE`, the status is `st` and `EXP` is `e`. -/
def EndsWith (i : Instr) (s : State) (evs : List BusEvent) (st : Status) (e : Byte) : Prop :=
  ∃ t, exec i s = .next t ∧ t.trace = s.trace ++ evs ∧ t.status = some st ∧ t.exp = e

/-- A probe answered `READY` and the given bytes, each answered `DONE` (`P b b …` in the notation of R10). -/
def goodEvents (bs : List Byte) : List BusEvent := .probe .ready :: bs.map fun b => .write b .done

/-- With every answer good, `XMIT w, bl` sends exactly these bytes after its probe and ends with `OK`. -/
def SendsBytes (w : Storage) (bl : Bit) (bs : List Byte) : Prop :=
  ∀ s, s.seq = .idle → AllGood s 5 → EndsWith (.xmit w bl) s (goodEvents bs) .ok (latchOf (goodEvents bs) s.exp)

/-- An event answered badly. -/
def isFailure (e : BusEvent) : Bool :=
  match e with
  | .probe .notReady => true
  | .write _ .fail => true
  | _ => false

/-! ### The requests of the external services -/

/-- A call of the transport made as R53 and R54 say, with the given handle, or a delay. -/
def CallAsFixed (p : Params) (h : Handle) (c : ServiceCall) : Prop :=
  match c with
  | .probe h' addr t => h' = h ∧ addr = p.busAddr ∧ t = p.tProbe
  | .write h' addr _ t => h' = h ∧ addr = p.busAddr ∧ t = p.tWrite
  | .delay _ => True

/-- The call that an event of the trace answers, made through the handle of `s` (R26, R53, R54). -/
def callOf (s : State) (e : BusEvent) : ServiceCall :=
  match e with
  | .probe _ => .probe s.handle s.cfg.busAddr s.cfg.tProbe
  | .write b _ => .write s.handle s.cfg.busAddr b s.cfg.tWrite

/-- The last byte put in `OBR` by the writes among the events, or the old one (R30). -/
def lastByteOf : List BusEvent → Byte → Byte
  | [], o => o
  | .write b _ :: evs, _ => lastByteOf evs b
  | .probe _ :: evs, o => lastByteOf evs o

/-- The external services `INIT h` uses when every answer is good, in order: the power-up delay, each raw write and
its delay, then the four transmissions, each with its delay (R172, R174). -/
def initCalls (h : Handle) (p : Params) : List ServiceCall :=
  .delay p.initPowerUp ::
    p.initSteps.flatMap (fun step => [.write h p.busAddr step.1 p.tWrite, .delay step.2]) ++
    [((0x028 : Word), p.initFuncDelay), (0x00E, p.initDispDelay), (0x001, p.initClearDelay),
      (0x007, p.initEntryDelay)].flatMap (fun step =>
        .probe h p.busAddr p.tProbe ::
          (bytesOf step.1 p.facadeBl).map (fun b => .write h p.busAddr b p.tWrite) ++ [.delay step.2])

/-- The durations of the delays among some calls. -/
def delaysOf (cs : List ServiceCall) : List Nat :=
  cs.filterMap fun c => match c with
    | .delay ms => some ms
    | _ => none

/-- A call of the Delay primitive. -/
def isDelay (c : ServiceCall) : Bool :=
  match c with
  | .delay _ => true
  | _ => false

end Sys2Proof.Machine
end

