-- ==== Sys2Proof/Certificates/Slice0/Obligations.lean ====
section
/-! DEFINITION. The statements for the provers, from the numbered rules of spec/. -/

open Sys2Proof Sys2Proof.Machine

/-- Sample words of R91's map, of R85's selectors (byte form: the model's choice, log 4) and of R83's byte. -/
def Obligations.WrittenOutWordsDecode : Prop :=
  decodeWord 0b0000000001#10 = some .iwClear ∧
  decodeWord 0b0000000110#10 = some (.iwEntry 1 0) ∧
  decodeWord 0b0000001101#10 = some (.iwDisp 1 0 1) ∧
  decodeWord 0b0000011000#10 = some (.iwShift 1 0) ∧
  decodeWord 0b0000101000#10 = some (.iwFunc 1 0) ∧
  decodeWord 0b0001001000#10 = some (.iwCgaddr 0x08) ∧
  decodeWord 0b0011000000#10 = some (.iwDdaddr 0x40) ∧
  decodeWord 0b1001000001#10 = some (.iwWdata 0x41) ∧
  decodeWord 0b1100000000#10 = some .iwRdata ∧
  decode ⟨.cmd, [0x00, 0x41, 0x02, 0x01]⟩ = .ok (.xmit 0x0241 1) ∧
  decode ⟨.cmd, [0x01, 0x27, 0x01, 0x00]⟩ = .ok (.move 39 1 0) ∧
  decode ⟨.cmd, [0x02, 0x01, 0x00, 0x01]⟩ = .ok (.shift 1 0 1) ∧
  decode ⟨.cmd, [0x0B, 0x41]⟩ = .ok (.showchar 0x41) ∧
  decode ⟨.ob, [0b01001101#8]⟩ = .ok (.ob 0x4 1 1 0 1)

/-- No operand bit of any encoding is dropped (R81 to R91; byte form of CMD records: log 4). -/
def Obligations.DecodeOfEncodeIsTheInstruction : Prop :=
  ∀ i : Instr, i.wellFormed = true → decode (encode i) = .ok i

/-- Each request has one meaning and each meaning one request, up to the ignored bits of R95. The byte form of CMD
records and the byte order of a word's storage are the model's choice (log 4). -/
def Obligations.EncodeOfDecodeIsTheRequest : Prop :=
  ∀ (r : Request) (i : Instr), decode r = .ok i → i.wellFormed = true ∧ encode i = r.canonical

/-- Bits of an address above the mask are dropped without error and without effect (R87). The round trip through the
bytes of a CMD record and of a word's storage rests on the model's choice of them (log 4). -/
def Obligations.EncodingDropsOnlyMaskedAddressBits : Prop :=
  ∀ i : Instr, decode (encode i) = .ok i.canonical ∧ ∀ s, exec i.canonical s = exec i s

/-- R92, R122, which the spec derives from its opcode map: the images are pairwise disjoint and hold 472 words. -/
def Obligations.BuilderWordIsReadBack : Prop :=
  (∀ (i : Instr) (s : State), isBuilder i = true →
    ∃ w : Word, exec i s = .next { s with result := some (.word (w.setWidth 16)) } ∧
      decodeWord w = some i.canonical) ∧
  (∀ (i j : Instr) (s : State), isBuilder i = true → isBuilder j = true → exec i s = exec j s →
    i.canonical = j.canonical) ∧
  ((List.range 1024).filter fun k => (decodeWord (BitVec.ofNat 10 k)).isSome).length = 472

/-- R93: no builder function produces them, and XMIT does not examine the payload (the spec's decision D23). -/
def Obligations.WordsNothingProducesAreTransmittedAllTheSame : Prop :=
  (∀ w : Word, w.toNat < 256 →
    (decodeWord w = none ↔
      w = 0x000 ∨ w = 0x003 ∨ (0x010 ≤ w.toNat ∧ w.toNat ≤ 0x01F ∧ w.toNat % 4 ≠ 0) ∨
        (0x020 ≤ w.toNat ∧ w.toNat ≤ 0x03F ∧ (w.getLsbD 4 = true ∨ w.toNat % 4 ≠ 0)))) ∧
  ((List.range 256).filter fun k => (decodeWord (BitVec.ofNat 10 k)).isNone).length = 42 ∧
  ∀ (iw : Storage) (bl : Bit), SendsBytes iw bl (bytesOf (iw.setWidth 10) bl)

/-- R95, R82; the storage of 16 bits, and that builders return zeros above the word, are the spec's decision D2 (log
30). -/
def Obligations.UpperStorageBitsHaveNoEffect : Prop :=
  (∀ (iw iw' : Storage) (bl : Bit) (s : State), iw.setWidth 10 = iw'.setWidth 10 →
    exec (.xmit iw bl) s = exec (.xmit iw' bl) s) ∧
  (∀ (i : Instr) (s : State), isBuilder i = true →
    ∃ v : Storage, exec i s = .next { s with result := some (.word v) } ∧ v.toNat < 1024)

/-- R111 to R116: encodings and examples; nothing but the returned value changes. -/
def Obligations.BuilderCommandWords : Prop :=
  (∀ (s : State) (inc sh d c b sd r n f : Bit),
    exec .iwClear s = .next { s with result := some (.word 0x0001) } ∧
    exec .iwHome s = .next { s with result := some (.word 0x0002) } ∧
    exec (.iwEntry inc sh) s = .next { s with result := some (.word (0b00000000000001#14 ++ inc ++ sh)) } ∧
    exec (.iwDisp d c b) s = .next { s with result := some (.word (0b0000000000001#13 ++ d ++ c ++ b)) } ∧
    exec (.iwShift sd r) s = .next { s with result := some (.word (0b000000000001#12 ++ sd ++ r ++ 0b00#2)) } ∧
    exec (.iwFunc n f) s = .next { s with result := some (.word (0b000000000010#12 ++ n ++ f ++ 0b00#2)) }) ∧
  SendsBytes 0x001 1 [0x0C, 0x08, 0x1C, 0x18] ∧ SendsBytes 0x002 1 [0x0C, 0x08, 0x2C, 0x28] ∧
  SendsBytes 0x006 1 [0x0C, 0x08, 0x6C, 0x68] ∧ SendsBytes 0x00C 1 [0x0C, 0x08, 0xCC, 0xC8] ∧
  SendsBytes 0x01C 1 [0x1C, 0x18, 0xCC, 0xC8] ∧ SendsBytes 0x028 1 [0x2C, 0x28, 0x8C, 0x88]

/-- R117, R118, R87. -/
def Obligations.BuilderAddressWords : Prop :=
  (∀ (s : State) (a : Byte),
    exec (.iwCgaddr a) s = .next { s with result := some (.word (0b0000000001#10 ++ a.extractLsb' 0 6)) } ∧
    exec (.iwDdaddr a) s = .next { s with result := some (.word (0b000000001#9 ++ a.extractLsb' 0 7)) }) ∧
  (∀ s : State, exec (.iwCgaddr 0x40) s = exec (.iwCgaddr 0x00) s ∧
    exec (.iwCgaddr 0xFF) s = .next { s with result := some (.word 0x07F) } ∧
    exec (.iwDdaddr 0x80) s = exec (.iwDdaddr 0x00) s ∧
    exec (.iwDdaddr 0xFF) s = .next { s with result := some (.word 0x0FF) }) ∧
  SendsBytes 0x048 1 [0x4C, 0x48, 0x8C, 0x88] ∧ SendsBytes 0x0C0 1 [0xCC, 0xC8, 0x0C, 0x08]

/-- R119; no auto-advance (C1). -/
def Obligations.WriteDataWord : Prop :=
  (∀ (s : State) (d : Byte),
    exec (.iwWdata d) s = .next { s with result := some (.word (0b00000010#8 ++ d)) }) ∧
  (∀ (s t : State) (d : Byte) (bl : Bit), exec (.xmit (0b00000010#8 ++ d) bl) s = .next t →
    t.curX = s.curX ∧ t.curY = s.curY) ∧
  SendsBytes 0x241 1 [0x4D, 0x49, 0x1D, 0x19]

/-- R120, R121; payload zero is the spec's decision D12 (log 31). -/
def Obligations.ReadWords : Prop :=
  ∀ s : State, exec .iwRdata s = .next { s with result := some (.word 0x0300) } ∧
    exec .iwRbusy s = .next { s with result := some (.word 0x0100) }

/-- R110, and R120, R121 for bit 9 of the read words, which R121 sets apart from R110's sentence (conflict C7, the
spec's decision D12, log 31). The value is put in `result` (log 7) and the status is left (log 8). -/
def Obligations.BuildersArePureAndTotal : Prop :=
  ∀ i : Instr, isBuilder i = true → ∃ w : Word,
    (∀ s : State, exec i s = .next { s with result := some (.word (w.setWidth 16)) }) ∧
    (w.getLsbD 9 = true ↔ (∃ d, i = .iwWdata d) ∨ i = .iwRdata)

/-- R83; that OB is an instruction which completes and returns its byte is the model's choice (log 6), and the shift
form and the four bytes are R84, which the spec derives. -/
def Obligations.OutputByteFormat : Prop :=
  (∀ (s : State) (n : BitVec 4) (bl en rw rs : Bit),
    exec (.ob n bl en rw rs) s = .next { s with result := some (.byte (n ++ bl ++ en ++ rw ++ rs)) } ∧
    (n ++ bl ++ en ++ rw ++ rs : Byte) =
      (n.setWidth 8 <<< 4) ||| (bl.setWidth 8 <<< 3) ||| (en.setWidth 8 <<< 2) ||| (rw.setWidth 8 <<< 1) |||
        rs.setWidth 8) ∧
  (∀ (w : Word) (bl : Bit),
    let byte (n : BitVec 4) (en : Bit) : Byte := n ++ bl ++ en ++ w.extractLsb' 8 1 ++ w.extractLsb' 9 1
    SendsBytes (w.setWidth 16) bl
      [byte (w.extractLsb' 4 4) 1, byte (w.extractLsb' 4 4) 0, byte (w.extractLsb' 0 4) 1,
        byte (w.extractLsb' 0 4) 0]) ∧
  SendsBytes 0x241 1 [0x4D, 0x49, 0x1D, 0x19]

/-- The properties V311 lists for all 2048 pairs; falling edges change enable alone (R132). -/
def Obligations.FourBytesGiveBackWordAndFlag : Prop :=
  ∀ (w : Word) (bl : Bit), ∃ b1 b2 b3 b4 : Byte,
    SendsBytes (w.setWidth 16) bl [b1, b2, b3, b4] ∧
    b2 = b1 &&& 0xFB ∧ b4 = b3 &&& 0xFB ∧
    b1.getLsbD 2 = true ∧ b2.getLsbD 2 = false ∧ b3.getLsbD 2 = true ∧ b4.getLsbD 2 = false ∧
    (∀ b ∈ [b1, b2, b3, b4], b &&& 0x0B = b1 &&& 0x0B) ∧
    bl = b1.extractLsb' 3 1 ∧
    w = (b1.extractLsb' 0 1).setWidth 10 <<< 9 ||| (b1.extractLsb' 1 1).setWidth 10 <<< 8 |||
      (b1 >>> 4).setWidth 10 <<< 4 ||| (b3 >>> 4).setWidth 10

/-- R138, row by row. -/
def Obligations.XmitHasSixOutcomes : Prop :=
  ∀ (s : State) (iw : Storage) (bl : Bit) (b2 b3 b4 b5 : Byte), s.seq = .idle →
    bytesOf (iw.setWidth 10) bl = [b2, b3, b4, b5] →
    (b2.getLsbD 2 = true ∧ b3.getLsbD 2 = false ∧ b4.getLsbD 2 = true ∧ b5.getLsbD 2 = false) ∧
    (s.answerAt 0 = .bad → EndsWith (.xmit iw bl) s [.probe .notReady] .busNotReady s.exp) ∧
    (AllGood s 1 → s.answerAt 1 = .bad →
      EndsWith (.xmit iw bl) s [.probe .ready, .write b2 .fail] .busWriteFailure s.exp) ∧
    (AllGood s 2 → s.answerAt 2 = .bad →
      EndsWith (.xmit iw bl) s [.probe .ready, .write b2 .done, .write b3 .fail] .busWriteFailure b2) ∧
    (AllGood s 3 → s.answerAt 3 = .bad →
      EndsWith (.xmit iw bl) s [.probe .ready, .write b2 .done, .write b3 .done, .write b4 .fail]
        .busWriteFailure b3) ∧
    (AllGood s 4 → s.answerAt 4 = .bad →
      EndsWith (.xmit iw bl) s
        [.probe .ready, .write b2 .done, .write b3 .done, .write b4 .done, .write b5 .fail]
        .busWriteFailure b4) ∧
    (AllGood s 5 →
      EndsWith (.xmit iw bl) s
        [.probe .ready, .write b2 .done, .write b3 .done, .write b4 .done, .write b5 .done] .ok b5)

/-- R130: the state XMIT writes, and R160: the tracker it does not. `result` kept (log 7), `requests` (log 3) and
`calls` (log 24) are the model's own fields and choices. -/
def Obligations.XmitFrame : Prop :=
  ∀ (s t : State) (iw : Storage) (bl : Bit), exec (.xmit iw bl) s = .next t →
    t.curX = s.curX ∧ t.curY = s.curY ∧ t.offset = s.offset ∧ t.handle = s.handle ∧
    t.handleSet = s.handleSet ∧ t.cfg = s.cfg ∧ t.result = s.result ∧ t.requests = s.requests ∧
    t.seq = .idle ∧ t.iwr = iw.setWidth 10 ∧ t.blr = bl ∧ s.trace <+: t.trace ∧ s.calls <+: t.calls

/-- R135, row by row; that a step of such a state is one transition is the model's reading (log 9). -/
def Obligations.SequencerTransitions : Prop :=
  (∀ (s : State) (iw : Storage) (bl : Bit), (startXmit iw bl s).seq = .probe ∧
    (startXmit iw bl s).iwr = iw.setWidth 10 ∧ (startXmit iw bl s).blr = bl ∧
    (startXmit iw bl s).trace = s.trace) ∧
  (∀ s : State, s.seq = .probe → ∃ t, step s = .next t ∧
    (s.answerAt 0 = .good → t.seq = .hnHi ∧ t.status = s.status ∧ t.trace = s.trace ++ [.probe .ready]) ∧
    (s.answerAt 0 = .bad →
      t.seq = .idle ∧ t.status = some .busNotReady ∧ t.trace = s.trace ++ [.probe .notReady])) ∧
  (∀ (s : State) (b2 b3 b4 b5 : Byte), LatchesConsistent s → bytesOf s.iwr s.blr = [b2, b3, b4, b5] →
    ∀ (q q' : Seq) (b : Byte) (st : Option Status),
      (q, q', b, st) ∈ [(Seq.hnHi, Seq.hnLo, b2, s.status), (Seq.hnLo, Seq.lnHi, b3, s.status),
        (Seq.lnHi, Seq.lnLo, b4, s.status), (Seq.lnLo, Seq.idle, b5, some .ok)] →
      s.seq = q → ∃ t, step s = .next t ∧
        (s.answerAt 0 = .good → t.seq = q' ∧ t.status = st ∧ t.trace = s.trace ++ [.write b .done]) ∧
        (s.answerAt 0 = .bad →
          t.seq = .idle ∧ t.status = some .busWriteFailure ∧ t.trace = s.trace ++ [.write b .fail]))

/-- The big step of R130 is the small steps of R135 (log 9); the steps left over after a bad answer are stutters on an
empty list of requests, the model's choice (log 3). -/
def Obligations.XmitIsFiveTransitions : Prop :=
  ∀ (s : State) (iw : Storage) (bl : Bit), s.seq = .idle → s.requests = [] →
    Host.Core.run Sys2Proof.core 5 (startXmit iw bl s) = exec (.xmit iw bl) s

/-- R30: OBR is a function of IWR, BLR and SEQ (steps: log 3, log 9). -/
def Obligations.LatchesStayConsistent : Prop :=
  ∀ s t : State, LatchesConsistent s → step s = .next t → LatchesConsistent t

/-- R141. -/
def Obligations.XmitDependsOnlyOnOperandsAndAnswers : Prop :=
  ∀ (s s' : State) (iw iw' : Storage) (bl : Bit), s.seq = .idle → s'.seq = .idle →
    iw.setWidth 10 = iw'.setWidth 10 → (∀ k, k < 5 → s.answerAt k = s'.answerAt k) →
    ∃ t t' evs, exec (.xmit iw bl) s = .next t ∧ exec (.xmit iw' bl) s' = .next t' ∧
      t.trace = s.trace ++ evs ∧ t'.trace = s'.trace ++ evs ∧ t.status = t'.status ∧
      (s.exp = s'.exp ∨ AllGood s 2 → t.exp = t'.exp)

/-- R133. -/
def Obligations.BacklightIsInEveryByte : Prop :=
  ∀ (s t : State) (iw : Storage) (bl : Bit), exec (.xmit iw bl) s = .next t →
    (∀ b a, BusEvent.write b a ∈ t.trace.drop s.trace.length → b.extractLsb' 3 1 = bl) ∧
    (AllGood s 2 → t.exp.extractLsb' 3 1 = bl)

/-- R60, R62, R134, R137, R151, R152, R157, R172, R192 to R198: the machine against the tables of the spec. Decisions
of the spec it rests on: directions D9 (log 21), the stubs D12 (log 2), EXP after FAIL D14 (log 18), INIT's raw writes
without a probe D15 (log 33), strings D17 (log 32). -/
def Obligations.OperationsIssueTheirPlan : Prop :=
  ∀ (i : Instr) (s : State), isOperation i = true → Accepts i s →
    ∃ t, exec i s = .next t ∧ t.trace = s.trace ++ expectedEvents i s ∧
      t.status = some (expectedStatus i s) ∧ t.exp = latchOf (expectedEvents i s) s.exp ∧ t.seq = .idle

/-- R192, R193, R196. -/
def Obligations.AFailedTransactionIsTheLast : Prop :=
  ∀ (i : Instr) (s t : State), isOperation i = true → exec i s = .next t →
    ∃ evs, t.trace = s.trace ++ evs ∧ (∀ e ∈ evs.dropLast, isFailure e = false) ∧
      (t.status = some .busNotReady ↔ evs.getLast? = some (.probe .notReady)) ∧
      (t.status = some .busWriteFailure ↔ ∃ b, evs.getLast? = some (.write b .fail))

/-- R151. -/
def Obligations.MoveStoresTheLogicalPosition : Prop :=
  ∀ (s : State) (x y : Byte) (bl : Bit), s.seq = .idle →
    ((0 ≤ x.toInt ∧ x.toInt < 40 ∧ 0 ≤ y.toInt ∧ y.toInt < 2) →
      ∃ t, exec (.move x y bl) s = .next t ∧ (t.curX.toNat : Int) = x.toInt ∧ (t.curY.toNat : Int) = y.toInt ∧
        t.offset = s.offset) ∧
    (¬(0 ≤ x.toInt ∧ x.toInt < 40 ∧ 0 ≤ y.toInt ∧ y.toInt < 2) →
      exec (.move x y bl) s = .next { s with status := some .invalidParameter })

/-- R152 (and the map of R69). -/
def Obligations.MoveTransmitsThePhysicalAddress : Prop :=
  ∀ (s : State) (x y : Byte) (bl : Bit) (a : Nat), s.seq = .idle → AllGood s 5 → s.offset.toNat ≤ 39 →
    x.toNat < 40 → y.toNat < 2 →
    a = (if y.toNat = 1 then 0x40 else 0) + (0x27 - s.offset.toNat + 1 + x.toNat) % 0x28 →
    EndsWith (.move x y bl) s (goodEvents (bytesOf (0x080 ||| BitVec.ofNat 10 a) bl)) .ok
      (latchOf (goodEvents (bytesOf (0x080 ||| BitVec.ofNat 10 a) bl)) s.exp) ∧
    a = 64 * y.toNat + (40 - s.offset.toNat + x.toNat) % 40 ∧ (a ≤ 0x27 ∨ (0x40 ≤ a ∧ a ≤ 0x67)) ∧
    (s.offset = 0 → x = 0 → (y = 0 → a = 0x00) ∧ (y = 1 → a = 0x40))

/-- R153, R154, R157 (the sign is the spec's decision D8, log 19; mode 1 for display and 1 for right, 0 for left are
its decision D9, log 21). -/
def Obligations.DisplayShiftMovesTheOffset : Prop :=
  ∀ (s : State) (bl : Bit), s.seq = .idle →
    (∃ t, exec (.shift 1 1 bl) s = .next t ∧ t.offset.toNat = (s.offset.toNat + 1) % 40 ∧
      t.curX = s.curX ∧ t.curY = s.curY) ∧
    (∃ t, exec (.shift 1 0 bl) s = .next t ∧ t.offset.toNat = (s.offset.toNat + 39) % 40 ∧
      t.curX = s.curX ∧ t.curY = s.curY)

/-- R155, R156, R157 (mode 0 for the cursor and 1 for right, 0 for left are the spec's decision D9, log 21). -/
def Obligations.CursorShiftMovesTheCursor : Prop :=
  ∀ (s : State) (bl : Bit), s.seq = .idle → s.curX.toNat ≤ 39 →
    (∃ t, exec (.shift 0 1 bl) s = .next t ∧ t.offset = s.offset ∧
      (s.curX.toNat < 39 → t.curX.toNat = s.curX.toNat + 1 ∧ t.curY = s.curY) ∧
      (s.curX.toNat = 39 → t.curX.toNat = 0 ∧ t.curY.toNat = 1 - s.curY.toNat)) ∧
    (∃ t, exec (.shift 0 0 bl) s = .next t ∧ t.offset = s.offset ∧
      (0 < s.curX.toNat → t.curX.toNat = s.curX.toNat - 1 ∧ t.curY = s.curY) ∧
      (s.curX.toNat = 0 → t.curX.toNat = 39 ∧ t.curY.toNat = 1 - s.curY.toNat))

/-- R157 (values of mode and dir: the spec's decision D9, log 21). -/
def Obligations.ShiftChecksItsDirectionAndSendsItsWord : Prop :=
  ∀ (s : State) (mode : Bit) (dir : Byte) (bl : Bit), s.seq = .idle →
    (1 < dir.toNat → exec (.shift mode dir bl) s = .next { s with status := some .invalidParameter }) ∧
    (dir.toNat ≤ 1 → AllGood s 5 →
      EndsWith (.shift mode dir bl) s
        (goodEvents (bytesOf (0x010 ||| mode.setWidth 10 <<< 3 ||| dir.setWidth 10 <<< 2) bl)) .ok
        (latchOf (goodEvents (bytesOf (0x010 ||| mode.setWidth 10 <<< 3 ||| dir.setWidth 10 <<< 2) bl)) s.exp))

/-- R194 (the legal directions 0 and 1 are the spec's decision D9, log 21). -/
def Obligations.InvalidParameterHasNoSideEffects : Prop :=
  (∀ (i : Instr) (s : State), isOperation i = true → Accepts i s → operandsLegal i = false →
    exec i s = .next { s with status := some .invalidParameter }) ∧
  (∀ (i : Instr) (s t : State), isOperation i = true → exec i s = .next t →
    (t.status = some .invalidParameter ↔
      (∃ x y, ((∃ bl, i = .move x y bl) ∨ i = .movecursor x y) ∧
        (x.toInt < 0 ∨ 40 ≤ x.toInt ∨ y.toInt < 0 ∨ 2 ≤ y.toInt)) ∨
      (∃ mode dir bl, i = .shift mode dir bl ∧ dir ≠ 0 ∧ dir ≠ 1)))

/-- R158, R159: the update comes before the transmission and is not undone. -/
def Obligations.TrackerIgnoresTheTransport : Prop :=
  ∀ (i : Instr) (s s' t t' : State), trackerOf s = trackerOf s' → exec i s = .next t → exec i s' = .next t' →
    trackerOf t = trackerOf t'

/-- R160 (no auto-advance: C1). -/
def Obligations.TrackerFrame : Prop :=
  (∀ (s t : State) (x y : Byte) (bl : Bit), exec (.move x y bl) s = .next t → t.offset = s.offset) ∧
  (∀ (s t : State) (dir : Byte) (bl : Bit), exec (.shift 1 dir bl) s = .next t →
    t.curX = s.curX ∧ t.curY = s.curY) ∧
  (∀ (s t : State) (dir : Byte) (bl : Bit), exec (.shift 0 dir bl) s = .next t → t.offset = s.offset) ∧
  (∀ (i : Instr) (s t : State),
    ((∃ iw bl, i = .xmit iw bl) ∨ isBuilder i = true ∨ i = .rddata ∨ i = .rdbusy) → exec i s = .next t →
      trackerOf t = trackerOf s)

/-- R176, R226, R229, R236; that INIT and CLEAR leave the tracker is the spec's decision D15 and D16 (log 29). -/
def Obligations.FacadeTrackerFrame : Prop :=
  (∀ (i : Instr) (s t : State),
    ((∃ h, i = .init h) ∨ i = .clear ∨ (∃ c, i = .showchar c) ∨ (∃ cs, i = .showstr cs)) → exec i s = .next t →
      trackerOf t = trackerOf s) ∧
  (∀ (s t : State) (x y : Byte), exec (.movecursor x y) s = .next t → t.offset = s.offset) ∧
  (∀ (s t : State) (right : Bit), exec (.shiftdisplay right) s = .next t → t.curX = s.curX ∧ t.curY = s.curY)

/-- R162, which the spec derives from R153 and R154; it holds for either sign of D8 (log 19). The values of mode and
direction are the spec's decision D9 (R157, log 21). -/
def Obligations.FortyDisplayShiftsReturnTheOffset : Prop :=
  ∀ (s : State) (bl : Bit), s.seq = .idle → s.offset.toNat ≤ 39 →
    (∃ t, execTimes (.shift 1 1 bl) 40 s = .next t ∧ t.offset = s.offset) ∧
    (∃ t, execTimes (.shift 1 0 bl) 40 s = .next t ∧ t.offset = s.offset) ∧
    (∃ t u, exec (.shift 1 1 bl) s = .next t ∧ exec (.shift 1 0 bl) t = .next u ∧ u.offset = s.offset) ∧
    (∃ t u, exec (.shift 1 0 bl) s = .next t ∧ exec (.shift 1 1 bl) t = .next u ∧ u.offset = s.offset)

/-- R163, which the spec derives from R155 and R156; that direction 1 goes forward and 0 back is R157, the spec's
decision D9 (log 21). -/
def Obligations.CursorShiftsMoveRoundEightyPositions : Prop :=
  ∀ (s : State) (bl : Bit), s.seq = .idle → s.curX.toNat ≤ 39 →
    (∃ t, exec (.shift 0 1 bl) s = .next t ∧ cursorIndex t = (cursorIndex s + 1) % 80 ∧ t.curX.toNat ≤ 39) ∧
    (∃ t, exec (.shift 0 0 bl) s = .next t ∧ cursorIndex t = (cursorIndex s + 79) % 80 ∧ t.curX.toNat ≤ 39) ∧
    (∃ t, execTimes (.shift 0 1 bl) 80 s = .next t ∧ t.curX = s.curX ∧ t.curY = s.curY) ∧
    (∃ t, execTimes (.shift 0 0 bl) 80 s = .next t ∧ t.curX = s.curX ∧ t.curY = s.curY) ∧
    (∃ t u, exec (.shift 0 1 bl) s = .next t ∧ exec (.shift 0 0 bl) t = .next u ∧ trackerOf u = trackerOf s) ∧
    (∃ t u, exec (.shift 0 0 bl) s = .next t ∧ exec (.shift 0 1 bl) t = .next u ∧ trackerOf u = trackerOf s)

/-- R24, which the spec derives from its tracker rules; an invariant from every state that meets it (steps: log 3, log
9; directions: D9, log 21). -/
def Obligations.StepKeepsTheTrackerInRange : Prop :=
  (∀ s t : State, TrackerInRange s → step s = .next t → TrackerInRange t) ∧
  ∀ s : State, s.curY = 0 ∨ s.curY = 1

/-- R170, R171 (silent success is the spec's decision D12; the value is free, log 2). -/
def Obligations.ReadStubsReportSuccess : Prop :=
  ∀ (i : Instr) (s : State), i = .rddata ∨ i = .rdbusy → s.seq = .idle → ∃ (v : Byte) (n : Nat),
    exec i s = .next { s with status := some .ok, result := some (.byte v), draws := n }

/-- R177, R178, R179, R181. Decisions of the spec it rests on: the sign of OFFSET D8 (log 19), the values of mode and
direction D9 (log 21), FACADE_BL D11 (log 16), CLEAR leaves the tracker D16 (log 29). -/
def Obligations.FacadeExpandsIntoCoreOperations : Prop :=
  ∀ s : State, s.seq = .idle → s.handleSet = true →
    (exec .clear s = exec (.xmit 0x001 s.cfg.facadeBl) s ∧
      ∃ t, exec .clear s = .next t ∧ trackerOf t = trackerOf s) ∧
    (∀ x y, exec (.movecursor x y) s = exec (.move x y s.cfg.facadeBl) s ∧
      ∃ t, exec (.movecursor x y) s = .next t) ∧
    (∀ c : Byte, exec (.showchar c) s = exec (.xmit (0x200 ||| c.setWidth 16) s.cfg.facadeBl) s ∧
      ∃ t, exec (.showchar c) s = .next t ∧ trackerOf t = trackerOf s) ∧
    (∀ r : Bit, exec (.shiftdisplay r) s = exec (.shift 1 (r.setWidth 8) s.cfg.facadeBl) s ∧
      ∃ t, exec (.shiftdisplay r) s = .next t ∧ t.status ≠ some .invalidParameter ∧
        t.offset.toNat = (s.offset.toNat + if r = 1 then 1 else 39) % 40) ∧
    (exec (.movecursor 40 0) s = .next { s with status := some .invalidParameter }) ∧
    (s.cfg.facadeBl = 1 → AllGood s 5 →
      EndsWith .clear s (goodEvents [0x0C, 0x08, 0x1C, 0x18]) .ok 0x18 ∧
      EndsWith (.showchar 0x41) s (goodEvents [0x4D, 0x49, 0x1D, 0x19]) .ok 0x19 ∧
      EndsWith (.shiftdisplay 1) s (goodEvents [0x1C, 0x18, 0xCC, 0xC8]) .ok 0xC8)

/-- R180 (a list with no terminator is the spec's decision D17, log 32). -/
def Obligations.ShowStringSendsItsCharactersInOrder : Prop :=
  ∀ s : State, s.seq = .idle → s.handleSet = true →
    exec (.showstr []) s = .next { s with status := some .ok } ∧
    (∀ (c : Byte) (cs : List Byte), ∃ t,
      exec (.xmit (0x200 ||| c.setWidth 16) s.cfg.facadeBl) s = .next t ∧
      exec (.showstr (c :: cs)) s = if t.status = some .ok then exec (.showstr cs) t else .next t) ∧
    (s.cfg.facadeBl = 1 → AllGood s 10 →
      EndsWith (.showstr [0x41, 0x42]) s
        (goodEvents [0x4D, 0x49, 0x1D, 0x19] ++ goodEvents [0x4D, 0x49, 0x2D, 0x29]) .ok 0x29)

/-- R180: completion and result for strings of any length; that every list is sent whole, the byte 0x00 included, is
the spec's decision D17 (log 32). -/
def Obligations.ShowStringCompletesForEveryString : Prop :=
  ∀ (cs : List Byte) (s : State), s.seq = .idle → s.handleSet = true → ∃ t,
    exec (.showstr cs) s = .next t ∧ trackerOf t = trackerOf s ∧ t.seq = .idle ∧
    (AllGood s (5 * cs.length) → t.status = some .ok ∧
      t.trace = s.trace ++ cs.flatMap fun c => goodEvents (bytesOf (0x200 ||| c.setWidth 10) s.cfg.facadeBl))

/-- R172, R174; no probe before a raw write, the end at FAIL, the tracker kept and the handle stored are the spec's
decision D15 (log 29, log 33); the record of calls is the model's own (log 24). -/
def Obligations.InitSendsItsSequence : Prop :=
  ∀ (h : Handle) (s : State), s.seq = .idle → ∃ t,
    exec (.init h) s = .next t ∧ t.handle = h ∧ t.handleSet = true ∧ trackerOf t = trackerOf s ∧
    t.trace = s.trace ++ issue s.answerAt 0 (s.cfg.initRaw.map .write ++
      [0x028, 0x00E, 0x001, 0x007].flatMap fun w => xmitPlan w s.cfg.facadeBl) ∧
    t.status = some (issueStatus s.answerAt 0 (s.cfg.initRaw.map .write ++
      [0x028, 0x00E, 0x001, 0x007].flatMap fun w => xmitPlan w s.cfg.facadeBl)) ∧
    (AllGood s (s.cfg.initRaw.length + 20) →
      t.status = some .ok ∧ t.calls = s.calls ++ initCalls h s.cfg ∧
        delaysOf (initCalls h s.cfg) = s.cfg.initDelays)

/-- R173, D15 (log 17). -/
def Obligations.InitParametersKeepTheirShape : Prop :=
  ∀ p : Config.Params, p.initDelays.length = p.initRaw.length + 5 ∧
    ∃ pulses s1 s2, p.initRaw = pulses ++ [s1, s2] ∧ s1.getLsbD 2 = true ∧ s2 = s1 &&& ~~~0x04

/-- R182, U3 (the spec's decision D20, log 11). -/
def Obligations.FacadeBeforeInitIsRefused : Prop :=
  ∀ (i : Instr) (s : State), needsHandle i = true → s.seq = .idle → s.handleSet = false →
    exec i s = .refused .notInitialised

/-- R207, U2 (the spec's decision D21, log 10). -/
def Obligations.SecondOperationIsRefused : Prop :=
  ∀ (i : Instr) (s : State), isOperation i = true → s.seq ≠ .idle → exec i s = .refused .operationInProgress

/-- R26, R38, R110, R170, R171 (the stubs change nothing: the spec's decision D12, log 2). The model's choices it
rests on: OB changes nothing but the returned value (log 6), `result` is kept by operations that return none (log 7),
builders and OB leave the status (log 8), and `requests` and `calls` are the model's own fields (log 3, log 24). -/
def Obligations.OperationFrame : Prop :=
  ∀ (i : Instr) (s t : State), exec i s = .next t →
    t.cfg = s.cfg ∧ t.requests = s.requests ∧
    ((¬∃ h, i = .init h) → t.handle = s.handle ∧ t.handleSet = s.handleSet) ∧
    (isOperation i = true → i ≠ .rddata → i ≠ .rdbusy → t.result = s.result) ∧
    (isOperation i = false ∨ i = .rddata ∨ i = .rdbusy →
      t.seq = s.seq ∧ t.iwr = s.iwr ∧ t.blr = s.blr ∧ t.obr = s.obr ∧ t.exp = s.exp ∧ t.trace = s.trace ∧
      t.calls = s.calls ∧ trackerOf t = trackerOf s) ∧
    (isOperation i = false → t.status = s.status)

/-- R32 (EXP unchanged by a failed write is the spec's decision D14, log 18); TRACE is in issue order (R33, R61). -/
def Obligations.ExpFollowsTheTrace : Prop :=
  (∀ s t : State, step s = .next t → ∃ evs, t.trace = s.trace ++ evs ∧ t.exp = latchOf evs s.exp) ∧
  (∀ (i : Instr) (s t : State) (e : Byte), exec i s = .next t →
    ∃ e', exec i { s with exp := e } = .next { t with exp := e' })

/-- R53 (address), R54 (time-outs: D5, log 36), R26 (handle: D20, log 35); the number BUS_ADDR7 is open (D4, log 16),
and the record of calls is the model's own (log 24). -/
def Obligations.TransportIsAlwaysCalledWithTheFixedArguments : Prop :=
  (∀ p : Config.Params, p.busAddr.toNat = 2 * p.busAddr7.toNat) ∧
  (∀ s t : State, step s = .next t → ∃ evs cs, t.trace = s.trace ++ evs ∧ t.calls = s.calls ++ cs ∧
    (∀ c ∈ cs, CallAsFixed s.cfg t.handle c) ∧
    cs.filter (fun c => !isDelay c) = evs.map (callOf t))

/-- R203, R233; that nothing but INIT waits is the spec's decision D22 (log 27), and the record of calls is the
model's own (log 24). -/
def Obligations.OnlyInitWaits : Prop :=
  ∀ (i : Instr) (s t : State), (¬∃ h, i = .init h) → exec i s = .next t → delaysOf t.calls = delaysOf s.calls

/-- R94, R120, R121. -/
def Obligations.NoReadWordIsSentByItself : Prop :=
  (∀ (i : Instr) (s t : State), (∀ iw bl, i = .xmit iw bl → iw.getLsbD 8 = false) → (¬∃ h, i = .init h) →
    exec i s = .next t →
    ∀ b a, BusEvent.write b a ∈ t.trace.drop s.trace.length → b.getLsbD 1 = false) ∧
  (∀ (h : Handle) (s t : State), exec (.init h) s = .next t →
    ∀ b a, BusEvent.write b a ∈ t.trace.drop (s.trace.length + s.cfg.initRaw.length) → b.getLsbD 1 = false)

/-- R26, R38, R172; the list of requests and what a step takes from it are the model's (log 3, log 9). -/
def Obligations.ConfigurationNeverChanges : Prop :=
  (∀ s t : State, step s = .next t → t.cfg = s.cfg) ∧
  (∀ s t : State, step s = .next t → t.handle ≠ s.handle ∨ t.handleSet ≠ s.handleSet →
    s.seq = .idle ∧ ∃ r rest h, s.requests = r :: rest ∧ decode r = .ok (.init h) ∧
      exec (.init h) { s with requests := rest } = .next t ∧ t.handle = h ∧ t.handleSet = true)

/-- R27: between operations SEQ is IDLE (also R196; steps: log 3, log 9). -/
def Obligations.SequencerRestsBetweenOperations : Prop :=
  ∀ s t : State, s.seq = .idle → step s = .next t → t.seq = .idle

/-- What step adds around exec (log 3, log 9, log 12). -/
def Obligations.StepRunsTheNextRequest : Prop :=
  (∀ (s : State) (r : Request) (rest : List Request) (i : Instr), s.seq = .idle → s.requests = r :: rest →
    decode r = .ok i → step s = exec i { s with requests := rest }) ∧
  (∀ (s : State) (r : Request) (rest : List Request) (e : DecodeError), s.seq = .idle →
    s.requests = r :: rest → decode r = .error e → step s = .refused (.undecodable e)) ∧
  (∀ s : State, s.seq = .idle → s.requests = [] → step s = .next s) ∧
  (∀ s : State, s.seq ≠ .idle → step s = .next (seqAdvance s)) ∧
  (∀ (s : State) (nbits w : Nat) (i : Instr), decodeTableWord nbits w = some i →
    step (s.withFetchWord nbits w) = exec i { s with seq := .idle })

/-- R220, R41: the values the spec gives, which are its decisions D7, D13 and D20 (log 15). -/
def Obligations.ResetState : Prop :=
  State.reset.curX = 0 ∧ State.reset.curY = 0 ∧ State.reset.offset = 0 ∧ State.reset.handleSet = false ∧
  State.reset.seq = .idle ∧ State.reset.trace = [] ∧ State.reset.calls = []

/-- The invariants of StepKeepsTheTrackerInRange, LatchesStayConsistent and SequencerRestsBetweenOperations at reset
(reset values: the spec's decisions D7, D13, log 15). -/
def Obligations.ResetMeetsTheInvariants : Prop :=
  TrackerInRange State.reset ∧ LatchesConsistent State.reset ∧ State.reset.seq = .idle

/-- R51, R52. -/
def Obligations.BusPrimitives : Prop :=
  ∀ (s : State) (b : Byte),
    ((busProbe s).1 = .ready ↔ s.answerAt 0 = .good) ∧ (busProbe s).2.exp = s.exp ∧
    (busProbe s).2.trace = s.trace ++ [.probe (busProbe s).1] ∧
    ((busWrite b s).1 = .done ↔ s.answerAt 0 = .good) ∧
    ((busWrite b s).1 = .done → (busWrite b s).2.exp = b) ∧
    ((busWrite b s).1 = .fail → (busWrite b s).2.exp = s.exp) ∧
    (busWrite b s).2.trace = s.trace ++ [.write b (busWrite b s).1] ∧
    ∀ t, t = (busProbe s).2 ∨ t = (busWrite b s).2 →
      (∀ k, t.answerAt k = s.answerAt (k + 1)) ∧ trackerOf t = trackerOf s ∧ t.seq = s.seq ∧ t.iwr = s.iwr ∧
      t.blr = s.blr ∧ t.obr = s.obr ∧ t.handle = s.handle ∧ t.handleSet = s.handleSet ∧ t.status = s.status
end

