-- ==== Sys2Proof/Laws/Decode.lean ====
section
/-! SUPPORT. Decoding and encoding piece by piece: flags, words in their storage, command records. -/

namespace Sys2Proof

@[simp] theorem flagOf_setWidth (b : Bit) : flagOf (b.setWidth 8) = .ok b := by revert b; decide

theorem setWidth_of_flagOf {b : Byte} {v : Bit} (h : flagOf b = .ok v) : v.setWidth 8 = b := by
  unfold flagOf at h
  split at h
  · cases h; subst_vars; rfl
  · split at h
    · cases h; subst_vars; rfl
    · cases h

/-- A word put in its storage decodes as the word. -/
theorem decode_iwRequest (w : Word) :
    decode (iwRequest w) = match decodeWord w with
      | some i => .ok i
      | none => .error (.noFunction w) := by
  have h : (((w.extractLsb' 8 2).setWidth 8 : Byte).extractLsb' 0 2 ++ w.extractLsb' 0 8 : BitVec 10) = w := by
    revert w; decide +kernel
  cases hd : decodeWord w <;> simp only [decode, iwRequest, decodeIw, h, hd]

/-- A word that decodes is the encoding of what it decodes to, and that is well-formed: all 1024 words. -/
theorem encode_of_decodeWord {w : Word} {i : Instr} (h : decodeWord w = some i) :
    i.wellFormed = true ∧ encode i = iwRequest w := by
  have all : ∀ w : Word, (match decodeWord w with
      | some i => i.wellFormed && encode i == iwRequest w
      | none => true) = true := by decide +kernel
  simpa [h] using all w

/-- A storage is its two bytes. -/
theorem storage_of_bytes (iw : Storage) : (iw.extractLsb' 8 8 ++ iw.extractLsb' 0 8 : BitVec 16) = iw := by
  ext i hi
  rw [← BitVec.getLsbD_eq_getElem, BitVec.getLsbD_append]
  by_cases h : i < 8
  · simp [h, hi]
  · simp only [h, decide_false, BitVec.getLsbD_extractLsb']
    rw [show 8 + (i - 8) = i by omega]
    simp [hi]
    omega

/-- The record of a selector and its operands. -/
theorem decode_cmdRequest (sel : Byte) (ops : List Byte) :
    decode (cmdRequest sel ops) = decodeCmd (sel :: ops) := rfl

end Sys2Proof
end

