-- ==== Sys2Proof/Laws/Operands.lean ====
section
/-! SUPPORT. The output byte and the words: their bit-field forms, and that the forms of the spec's tables agree
with the ones the meanings compute. -/

namespace Sys2Proof.Machine

/-- The byte composed line by line is the concatenation of its fields (R83, R84). -/
theorem composeByte_eq_append (n : BitVec 4) (bl en rw rs : Bit) :
    composeByte n bl en rw rs = n ++ bl ++ en ++ rw ++ rs := by
  revert n bl en rw rs; decide +kernel

/-- Clearing only the enable bit of a byte gives the byte with enable 0 (R132, C6). -/
theorem composeByte_clear_enable (n : BitVec 4) (bl en rw rs : Bit) :
    composeByte n bl en rw rs &&& ~~~Config.M_EN = composeByte n bl 0 rw rs := by
  revert n bl en rw rs; decide +kernel

theorem outByte_clear_enable (w : Word) (bl : Bit) (h : Half) :
    outByte w bl h 1 &&& ~~~Config.M_EN = outByte w bl h 0 :=
  composeByte_clear_enable ..

/-- The closed form of R134 for a nibble and the two copied bits. -/
theorem composeByte_eq_table (n : BitVec 4) (bl rw rs : Bit) :
    composeByte n bl 1 rw rs =
        (n.setWidth 8 <<< 4) ||| ((bl.setWidth 8 <<< 3) ||| (rw.setWidth 8 <<< 1) ||| rs.setWidth 8) ||| 0x04 ∧
      composeByte n bl 0 rw rs =
        (n.setWidth 8 <<< 4) ||| ((bl.setWidth 8 <<< 3) ||| (rw.setWidth 8 <<< 1) ||| rs.setWidth 8) := by
  revert n bl rw rs; decide +kernel

/-- The four bytes of R134 are those of R131 and R132. -/
theorem bytesOf_eq_outByte (w : Word) (bl : Bit) :
    bytesOf w bl = [outByte w bl .hi 1, outByte w bl .hi 0, outByte w bl .lo 1, outByte w bl .lo 0] := by
  have hi := composeByte_eq_table (nib w .hi) bl (rwBit w) (rsBit w)
  have lo := composeByte_eq_table (nib w .lo) bl (rwBit w) (rsBit w)
  simp only [outByte, hi.1, hi.2, lo.1, lo.2]
  rfl

/-- A word is recovered from its storage, whatever the storage's upper bits (R82). -/
@[simp] theorem wordOf_storageOf (w : Word) : wordOf (storageOf w) = w := by
  ext i hi
  simp [wordOf, storageOf, hi]
  omega

theorem wordOf_eq_setWidth (iw : Storage) : wordOf iw = iw.setWidth 10 := by
  ext i hi; simp [wordOf]

end Sys2Proof.Machine
end

