-- ==== Sys2Proof/Laws/State.lean ====
section
/-! SUPPORT. One lemma per field per update: what each shared operation over State leaves in each field. -/

namespace Sys2Proof.Machine

variable (s : State)

/-! ### `State.emit` -/

@[simp] theorem emit_cfg (e : BusEvent) : (State.emit e s).cfg = s.cfg := rfl
@[simp] theorem emit_curX (e : BusEvent) : (State.emit e s).curX = s.curX := rfl
@[simp] theorem emit_curY (e : BusEvent) : (State.emit e s).curY = s.curY := rfl
@[simp] theorem emit_offset (e : BusEvent) : (State.emit e s).offset = s.offset := rfl
@[simp] theorem emit_handle (e : BusEvent) : (State.emit e s).handle = s.handle := rfl
@[simp] theorem emit_handleSet (e : BusEvent) : (State.emit e s).handleSet = s.handleSet := rfl
@[simp] theorem emit_seq (e : BusEvent) : (State.emit e s).seq = s.seq := rfl
@[simp] theorem emit_iwr (e : BusEvent) : (State.emit e s).iwr = s.iwr := rfl
@[simp] theorem emit_blr (e : BusEvent) : (State.emit e s).blr = s.blr := rfl
@[simp] theorem emit_obr (e : BusEvent) : (State.emit e s).obr = s.obr := rfl
@[simp] theorem emit_status (e : BusEvent) : (State.emit e s).status = s.status := rfl
@[simp] theorem emit_result (e : BusEvent) : (State.emit e s).result = s.result := rfl
@[simp] theorem emit_exp (e : BusEvent) : (State.emit e s).exp = s.exp := rfl
@[simp] theorem emit_trace (e : BusEvent) : (State.emit e s).trace = s.trace ++ [e] := rfl
@[simp] theorem emit_calls (e : BusEvent) : (State.emit e s).calls = s.calls := rfl
@[simp] theorem emit_replies (e : BusEvent) : (State.emit e s).replies = s.replies := rfl
@[simp] theorem emit_draws (e : BusEvent) : (State.emit e s).draws = s.draws := rfl
@[simp] theorem emit_requests (e : BusEvent) : (State.emit e s).requests = s.requests := rfl

/-! ### `State.record` -/

@[simp] theorem record_cfg (c : ServiceCall) : (State.record c s).cfg = s.cfg := rfl
@[simp] theorem record_curX (c : ServiceCall) : (State.record c s).curX = s.curX := rfl
@[simp] theorem record_curY (c : ServiceCall) : (State.record c s).curY = s.curY := rfl
@[simp] theorem record_offset (c : ServiceCall) : (State.record c s).offset = s.offset := rfl
@[simp] theorem record_handle (c : ServiceCall) : (State.record c s).handle = s.handle := rfl
@[simp] theorem record_handleSet (c : ServiceCall) : (State.record c s).handleSet = s.handleSet := rfl
@[simp] theorem record_seq (c : ServiceCall) : (State.record c s).seq = s.seq := rfl
@[simp] theorem record_iwr (c : ServiceCall) : (State.record c s).iwr = s.iwr := rfl
@[simp] theorem record_blr (c : ServiceCall) : (State.record c s).blr = s.blr := rfl
@[simp] theorem record_obr (c : ServiceCall) : (State.record c s).obr = s.obr := rfl
@[simp] theorem record_status (c : ServiceCall) : (State.record c s).status = s.status := rfl
@[simp] theorem record_result (c : ServiceCall) : (State.record c s).result = s.result := rfl
@[simp] theorem record_exp (c : ServiceCall) : (State.record c s).exp = s.exp := rfl
@[simp] theorem record_trace (c : ServiceCall) : (State.record c s).trace = s.trace := rfl
@[simp] theorem record_calls (c : ServiceCall) : (State.record c s).calls = s.calls ++ [c] := rfl
@[simp] theorem record_replies (c : ServiceCall) : (State.record c s).replies = s.replies := rfl
@[simp] theorem record_draws (c : ServiceCall) : (State.record c s).draws = s.draws := rfl
@[simp] theorem record_requests (c : ServiceCall) : (State.record c s).requests = s.requests := rfl

/-! ### `State.consume` -/

@[simp] theorem consume_cfg (n : Nat) : (State.consume n s).cfg = s.cfg := rfl
@[simp] theorem consume_curX (n : Nat) : (State.consume n s).curX = s.curX := rfl
@[simp] theorem consume_curY (n : Nat) : (State.consume n s).curY = s.curY := rfl
@[simp] theorem consume_offset (n : Nat) : (State.consume n s).offset = s.offset := rfl
@[simp] theorem consume_handle (n : Nat) : (State.consume n s).handle = s.handle := rfl
@[simp] theorem consume_handleSet (n : Nat) : (State.consume n s).handleSet = s.handleSet := rfl
@[simp] theorem consume_seq (n : Nat) : (State.consume n s).seq = s.seq := rfl
@[simp] theorem consume_iwr (n : Nat) : (State.consume n s).iwr = s.iwr := rfl
@[simp] theorem consume_blr (n : Nat) : (State.consume n s).blr = s.blr := rfl
@[simp] theorem consume_obr (n : Nat) : (State.consume n s).obr = s.obr := rfl
@[simp] theorem consume_status (n : Nat) : (State.consume n s).status = s.status := rfl
@[simp] theorem consume_result (n : Nat) : (State.consume n s).result = s.result := rfl
@[simp] theorem consume_exp (n : Nat) : (State.consume n s).exp = s.exp := rfl
@[simp] theorem consume_trace (n : Nat) : (State.consume n s).trace = s.trace := rfl
@[simp] theorem consume_calls (n : Nat) : (State.consume n s).calls = s.calls := rfl
@[simp] theorem consume_replies (n : Nat) : (State.consume n s).replies = s.replies.drop n := rfl
@[simp] theorem consume_draws (n : Nat) : (State.consume n s).draws = s.draws + (n - s.replies.length) := rfl
@[simp] theorem consume_requests (n : Nat) : (State.consume n s).requests = s.requests := rfl

/-! ### `delay` -/

@[simp] theorem delay_cfg (ms : Nat) : (delay ms s).cfg = s.cfg := rfl
@[simp] theorem delay_curX (ms : Nat) : (delay ms s).curX = s.curX := rfl
@[simp] theorem delay_curY (ms : Nat) : (delay ms s).curY = s.curY := rfl
@[simp] theorem delay_offset (ms : Nat) : (delay ms s).offset = s.offset := rfl
@[simp] theorem delay_handle (ms : Nat) : (delay ms s).handle = s.handle := rfl
@[simp] theorem delay_handleSet (ms : Nat) : (delay ms s).handleSet = s.handleSet := rfl
@[simp] theorem delay_seq (ms : Nat) : (delay ms s).seq = s.seq := rfl
@[simp] theorem delay_iwr (ms : Nat) : (delay ms s).iwr = s.iwr := rfl
@[simp] theorem delay_blr (ms : Nat) : (delay ms s).blr = s.blr := rfl
@[simp] theorem delay_obr (ms : Nat) : (delay ms s).obr = s.obr := rfl
@[simp] theorem delay_status (ms : Nat) : (delay ms s).status = s.status := rfl
@[simp] theorem delay_result (ms : Nat) : (delay ms s).result = s.result := rfl
@[simp] theorem delay_exp (ms : Nat) : (delay ms s).exp = s.exp := rfl
@[simp] theorem delay_trace (ms : Nat) : (delay ms s).trace = s.trace := rfl
@[simp] theorem delay_calls (ms : Nat) : (delay ms s).calls = s.calls ++ [.delay ms] := rfl
@[simp] theorem delay_replies (ms : Nat) : (delay ms s).replies = s.replies := rfl
@[simp] theorem delay_draws (ms : Nat) : (delay ms s).draws = s.draws := rfl
@[simp] theorem delay_requests (ms : Nat) : (delay ms s).requests = s.requests := rfl

/-! ### `raise` -/

@[simp] theorem raise_cfg (st : Status) : (raise st s).cfg = s.cfg := rfl
@[simp] theorem raise_curX (st : Status) : (raise st s).curX = s.curX := rfl
@[simp] theorem raise_curY (st : Status) : (raise st s).curY = s.curY := rfl
@[simp] theorem raise_offset (st : Status) : (raise st s).offset = s.offset := rfl
@[simp] theorem raise_handle (st : Status) : (raise st s).handle = s.handle := rfl
@[simp] theorem raise_handleSet (st : Status) : (raise st s).handleSet = s.handleSet := rfl
@[simp] theorem raise_seq (st : Status) : (raise st s).seq = .idle := rfl
@[simp] theorem raise_iwr (st : Status) : (raise st s).iwr = s.iwr := rfl
@[simp] theorem raise_blr (st : Status) : (raise st s).blr = s.blr := rfl
@[simp] theorem raise_obr (st : Status) : (raise st s).obr = s.obr := rfl
@[simp] theorem raise_status (st : Status) : (raise st s).status = some st := rfl
@[simp] theorem raise_result (st : Status) : (raise st s).result = s.result := rfl
@[simp] theorem raise_exp (st : Status) : (raise st s).exp = s.exp := rfl
@[simp] theorem raise_trace (st : Status) : (raise st s).trace = s.trace := rfl
@[simp] theorem raise_calls (st : Status) : (raise st s).calls = s.calls := rfl
@[simp] theorem raise_replies (st : Status) : (raise st s).replies = s.replies := rfl
@[simp] theorem raise_draws (st : Status) : (raise st s).draws = s.draws := rfl
@[simp] theorem raise_requests (st : Status) : (raise st s).requests = s.requests := rfl

/-! ### `returnOk` -/

@[simp] theorem returnOk_cfg : (returnOk s).cfg = s.cfg := rfl
@[simp] theorem returnOk_curX : (returnOk s).curX = s.curX := rfl
@[simp] theorem returnOk_curY : (returnOk s).curY = s.curY := rfl
@[simp] theorem returnOk_offset : (returnOk s).offset = s.offset := rfl
@[simp] theorem returnOk_handle : (returnOk s).handle = s.handle := rfl
@[simp] theorem returnOk_handleSet : (returnOk s).handleSet = s.handleSet := rfl
@[simp] theorem returnOk_seq : (returnOk s).seq = s.seq := rfl
@[simp] theorem returnOk_iwr : (returnOk s).iwr = s.iwr := rfl
@[simp] theorem returnOk_blr : (returnOk s).blr = s.blr := rfl
@[simp] theorem returnOk_obr : (returnOk s).obr = s.obr := rfl
@[simp] theorem returnOk_status : (returnOk s).status = some .ok := rfl
@[simp] theorem returnOk_result : (returnOk s).result = s.result := rfl
@[simp] theorem returnOk_exp : (returnOk s).exp = s.exp := rfl
@[simp] theorem returnOk_trace : (returnOk s).trace = s.trace := rfl
@[simp] theorem returnOk_calls : (returnOk s).calls = s.calls := rfl
@[simp] theorem returnOk_replies : (returnOk s).replies = s.replies := rfl
@[simp] theorem returnOk_draws : (returnOk s).draws = s.draws := rfl
@[simp] theorem returnOk_requests : (returnOk s).requests = s.requests := rfl

/-! ### `returnValue` -/

@[simp] theorem returnValue_cfg (v : Value) : (returnValue v s).cfg = s.cfg := rfl
@[simp] theorem returnValue_curX (v : Value) : (returnValue v s).curX = s.curX := rfl
@[simp] theorem returnValue_curY (v : Value) : (returnValue v s).curY = s.curY := rfl
@[simp] theorem returnValue_offset (v : Value) : (returnValue v s).offset = s.offset := rfl
@[simp] theorem returnValue_handle (v : Value) : (returnValue v s).handle = s.handle := rfl
@[simp] theorem returnValue_handleSet (v : Value) : (returnValue v s).handleSet = s.handleSet := rfl
@[simp] theorem returnValue_seq (v : Value) : (returnValue v s).seq = s.seq := rfl
@[simp] theorem returnValue_iwr (v : Value) : (returnValue v s).iwr = s.iwr := rfl
@[simp] theorem returnValue_blr (v : Value) : (returnValue v s).blr = s.blr := rfl
@[simp] theorem returnValue_obr (v : Value) : (returnValue v s).obr = s.obr := rfl
@[simp] theorem returnValue_status (v : Value) : (returnValue v s).status = s.status := rfl
@[simp] theorem returnValue_result (v : Value) : (returnValue v s).result = some v := rfl
@[simp] theorem returnValue_exp (v : Value) : (returnValue v s).exp = s.exp := rfl
@[simp] theorem returnValue_trace (v : Value) : (returnValue v s).trace = s.trace := rfl
@[simp] theorem returnValue_calls (v : Value) : (returnValue v s).calls = s.calls := rfl
@[simp] theorem returnValue_replies (v : Value) : (returnValue v s).replies = s.replies := rfl
@[simp] theorem returnValue_draws (v : Value) : (returnValue v s).draws = s.draws := rfl
@[simp] theorem returnValue_requests (v : Value) : (returnValue v s).requests = s.requests := rfl

/-! ### `goto` -/

@[simp] theorem goto_cfg (q : Seq) : (goto q s).cfg = s.cfg := rfl
@[simp] theorem goto_curX (q : Seq) : (goto q s).curX = s.curX := rfl
@[simp] theorem goto_curY (q : Seq) : (goto q s).curY = s.curY := rfl
@[simp] theorem goto_offset (q : Seq) : (goto q s).offset = s.offset := rfl
@[simp] theorem goto_handle (q : Seq) : (goto q s).handle = s.handle := rfl
@[simp] theorem goto_handleSet (q : Seq) : (goto q s).handleSet = s.handleSet := rfl
@[simp] theorem goto_seq (q : Seq) : (goto q s).seq = q := rfl
@[simp] theorem goto_iwr (q : Seq) : (goto q s).iwr = s.iwr := rfl
@[simp] theorem goto_blr (q : Seq) : (goto q s).blr = s.blr := rfl
@[simp] theorem goto_obr (q : Seq) : (goto q s).obr = s.obr := rfl
@[simp] theorem goto_status (q : Seq) : (goto q s).status = s.status := rfl
@[simp] theorem goto_result (q : Seq) : (goto q s).result = s.result := rfl
@[simp] theorem goto_exp (q : Seq) : (goto q s).exp = s.exp := rfl
@[simp] theorem goto_trace (q : Seq) : (goto q s).trace = s.trace := rfl
@[simp] theorem goto_calls (q : Seq) : (goto q s).calls = s.calls := rfl
@[simp] theorem goto_replies (q : Seq) : (goto q s).replies = s.replies := rfl
@[simp] theorem goto_draws (q : Seq) : (goto q s).draws = s.draws := rfl
@[simp] theorem goto_requests (q : Seq) : (goto q s).requests = s.requests := rfl

/-! ### `startXmit` -/

@[simp] theorem startXmit_cfg (iw : Storage) (bl : Bit) : (startXmit iw bl s).cfg = s.cfg := rfl
@[simp] theorem startXmit_curX (iw : Storage) (bl : Bit) : (startXmit iw bl s).curX = s.curX := rfl
@[simp] theorem startXmit_curY (iw : Storage) (bl : Bit) : (startXmit iw bl s).curY = s.curY := rfl
@[simp] theorem startXmit_offset (iw : Storage) (bl : Bit) : (startXmit iw bl s).offset = s.offset := rfl
@[simp] theorem startXmit_handle (iw : Storage) (bl : Bit) : (startXmit iw bl s).handle = s.handle := rfl
@[simp] theorem startXmit_handleSet (iw : Storage) (bl : Bit) : (startXmit iw bl s).handleSet = s.handleSet := rfl
@[simp] theorem startXmit_seq (iw : Storage) (bl : Bit) : (startXmit iw bl s).seq = .probe := rfl
@[simp] theorem startXmit_iwr (iw : Storage) (bl : Bit) : (startXmit iw bl s).iwr = wordOf iw := rfl
@[simp] theorem startXmit_blr (iw : Storage) (bl : Bit) : (startXmit iw bl s).blr = bl := rfl
@[simp] theorem startXmit_obr (iw : Storage) (bl : Bit) : (startXmit iw bl s).obr = s.obr := rfl
@[simp] theorem startXmit_status (iw : Storage) (bl : Bit) : (startXmit iw bl s).status = none := rfl
@[simp] theorem startXmit_result (iw : Storage) (bl : Bit) : (startXmit iw bl s).result = s.result := rfl
@[simp] theorem startXmit_exp (iw : Storage) (bl : Bit) : (startXmit iw bl s).exp = s.exp := rfl
@[simp] theorem startXmit_trace (iw : Storage) (bl : Bit) : (startXmit iw bl s).trace = s.trace := rfl
@[simp] theorem startXmit_calls (iw : Storage) (bl : Bit) : (startXmit iw bl s).calls = s.calls := rfl
@[simp] theorem startXmit_replies (iw : Storage) (bl : Bit) : (startXmit iw bl s).replies = s.replies := rfl
@[simp] theorem startXmit_draws (iw : Storage) (bl : Bit) : (startXmit iw bl s).draws = s.draws := rfl
@[simp] theorem startXmit_requests (iw : Storage) (bl : Bit) : (startXmit iw bl s).requests = s.requests := rfl

/-! ### `offsetRight` -/

@[simp] theorem offsetRight_cfg : (offsetRight s).cfg = s.cfg := rfl
@[simp] theorem offsetRight_curX : (offsetRight s).curX = s.curX := rfl
@[simp] theorem offsetRight_curY : (offsetRight s).curY = s.curY := rfl
@[simp] theorem offsetRight_offset : (offsetRight s).offset = BitVec.ofNat 6 ((s.offset.toNat + 1) % 40) := rfl
@[simp] theorem offsetRight_handle : (offsetRight s).handle = s.handle := rfl
@[simp] theorem offsetRight_handleSet : (offsetRight s).handleSet = s.handleSet := rfl
@[simp] theorem offsetRight_seq : (offsetRight s).seq = s.seq := rfl
@[simp] theorem offsetRight_iwr : (offsetRight s).iwr = s.iwr := rfl
@[simp] theorem offsetRight_blr : (offsetRight s).blr = s.blr := rfl
@[simp] theorem offsetRight_obr : (offsetRight s).obr = s.obr := rfl
@[simp] theorem offsetRight_status : (offsetRight s).status = s.status := rfl
@[simp] theorem offsetRight_result : (offsetRight s).result = s.result := rfl
@[simp] theorem offsetRight_exp : (offsetRight s).exp = s.exp := rfl
@[simp] theorem offsetRight_trace : (offsetRight s).trace = s.trace := rfl
@[simp] theorem offsetRight_calls : (offsetRight s).calls = s.calls := rfl
@[simp] theorem offsetRight_replies : (offsetRight s).replies = s.replies := rfl
@[simp] theorem offsetRight_draws : (offsetRight s).draws = s.draws := rfl
@[simp] theorem offsetRight_requests : (offsetRight s).requests = s.requests := rfl

/-! ### `offsetLeft` -/

@[simp] theorem offsetLeft_cfg : (offsetLeft s).cfg = s.cfg := rfl
@[simp] theorem offsetLeft_curX : (offsetLeft s).curX = s.curX := rfl
@[simp] theorem offsetLeft_curY : (offsetLeft s).curY = s.curY := rfl
@[simp] theorem offsetLeft_offset : (offsetLeft s).offset = BitVec.ofNat 6 ((s.offset.toNat + 39) % 40) := rfl
@[simp] theorem offsetLeft_handle : (offsetLeft s).handle = s.handle := rfl
@[simp] theorem offsetLeft_handleSet : (offsetLeft s).handleSet = s.handleSet := rfl
@[simp] theorem offsetLeft_seq : (offsetLeft s).seq = s.seq := rfl
@[simp] theorem offsetLeft_iwr : (offsetLeft s).iwr = s.iwr := rfl
@[simp] theorem offsetLeft_blr : (offsetLeft s).blr = s.blr := rfl
@[simp] theorem offsetLeft_obr : (offsetLeft s).obr = s.obr := rfl
@[simp] theorem offsetLeft_status : (offsetLeft s).status = s.status := rfl
@[simp] theorem offsetLeft_result : (offsetLeft s).result = s.result := rfl
@[simp] theorem offsetLeft_exp : (offsetLeft s).exp = s.exp := rfl
@[simp] theorem offsetLeft_trace : (offsetLeft s).trace = s.trace := rfl
@[simp] theorem offsetLeft_calls : (offsetLeft s).calls = s.calls := rfl
@[simp] theorem offsetLeft_replies : (offsetLeft s).replies = s.replies := rfl
@[simp] theorem offsetLeft_draws : (offsetLeft s).draws = s.draws := rfl
@[simp] theorem offsetLeft_requests : (offsetLeft s).requests = s.requests := rfl

end Sys2Proof.Machine
end

