-- ==== Sys2Proof/Laws/Ops.lean ====
section
/-! SUPPORT. One lemma per shared operation, saying once what it can do. -/

namespace Sys2Proof.Machine

open Sys2Proof.Config (Reply)

/-- After the environment has given `n` answers, its `k`-th next answer is the `n + k`-th of before. -/
theorem answerAt_of_consumed {s t : State} {n : Nat} (k : Nat) (hr : t.replies = s.replies.drop n)
    (hd : t.draws = s.draws + (n - s.replies.length)) : t.answerAt k = s.answerAt (n + k) := by
  have hi : s.draws + (n - s.replies.length) + (k - (s.replies.length - n))
      = s.draws + (n + k - s.replies.length) := by omega
  simp only [State.answerAt, hr, hd, List.getElem?_drop, List.length_drop, hi]

@[simp] theorem answerAt_consume (s : State) (n k : Nat) : (s.consume n).answerAt k = s.answerAt (n + k) :=
  answerAt_of_consumed k rfl rfl

/-- A scripted answer is the one the environment gives. -/
theorem answerAt_scripted {s : State} {k : Nat} {r : Reply} (h : s.replies[k]? = some r) :
    s.answerAt k = r := by
  simp [State.answerAt, h]

/-- The answers do not depend on any other field. -/
theorem answerAt_congr {s t : State} (hr : t.replies = s.replies) (hd : t.draws = s.draws) (k : Nat) :
    t.answerAt k = s.answerAt k := by
  simp [State.answerAt, hr, hd]

theorem consume_consume (s : State) (m n : Nat) : (s.consume m).consume n = s.consume (m + n) := by
  have hd : s.draws + (m - s.replies.length) + (n - (s.replies.length - m))
      = s.draws + (m + n - s.replies.length) := by omega
  simp only [State.consume, List.drop_drop, List.length_drop, hd]

@[simp] theorem consume_zero (s : State) : s.consume 0 = s := by simp [State.consume]

/-- `BusProbe`: one answer taken, one event and one call recorded, nothing else changed (R51). -/
theorem busProbe_spec (s : State) :
    busProbe s = (probeAnswer (s.answerAt 0),
      { s.consume 1 with
        trace := s.trace ++ [.probe (probeAnswer (s.answerAt 0))]
        calls := s.calls ++ [.probe s.handle s.cfg.busAddr s.cfg.tProbe] }) := rfl

/-- `BusWrite`: one answer taken, one event and one call recorded, `EXP` latched on `DONE` (R52). -/
theorem busWrite_spec (b : Byte) (s : State) :
    busWrite b s = (writeAnswer (s.answerAt 0),
      { s.consume 1 with
        exp := latchAfter b (writeAnswer (s.answerAt 0)) s.exp
        trace := s.trace ++ [.write b (writeAnswer (s.answerAt 0))]
        calls := s.calls ++ [.write s.handle s.cfg.busAddr b s.cfg.tWrite] }) := rfl

theorem ifOk_ok {s : State} (k : State → State) (h : s.status = some .ok) : ifOk s k = k s := by
  simp [ifOk, h]

theorem ifOk_error {s : State} (k : State → State) (h : s.status ≠ some .ok) : ifOk s k = s := by
  simp [ifOk, h]

/-- Between operations the port runs the operation. -/
theorem whenIdle_of_idle {s : State} (op : State → State) (h : s.seq = .idle) : whenIdle s op = .next (op s) :=
  if_pos h

/-- Between operations and after an `INIT` the port runs a façade operation. -/
theorem whenInitialised_of_set {s : State} (op : State → State) (h : s.seq = .idle) (h' : s.handleSet = true) :
    whenInitialised s op = .next (op s) := by
  rw [whenInitialised, if_pos h, if_pos h']

/-- The port's condition: it runs the operation between operations and refuses otherwise (U2). -/
theorem whenIdle_next_iff {s t : State} {op : State → State} :
    whenIdle s op = .next t ↔ s.seq = .idle ∧ t = op s := by
  unfold whenIdle
  by_cases h : s.seq = .idle <;> simp [h, eq_comm (a := t)]

/-- The façade's condition (U2, U3). -/
theorem whenInitialised_next_iff {s t : State} {op : State → State} :
    whenInitialised s op = .next t ↔ s.seq = .idle ∧ s.handleSet = true ∧ t = op s := by
  unfold whenInitialised
  by_cases h : s.seq = .idle <;> by_cases h' : s.handleSet = true <;> simp [h, h', eq_comm (a := t)]

end Sys2Proof.Machine
end

