-- ==== Sys2Proof/Laws/Transmit.lean ====
section
/-! SUPPORT. The transmitter: `transmit` as the issue of its plan, the one lemma the operations above it cite. -/

namespace Sys2Proof.Machine

open Sys2Proof.Config (Reply)

/-- What issuing events leaves in the fields a transaction touches, from `s`. -/
def afterEvents (evs : List BusEvent) (s : State) : State :=
  { s.consume evs.length with
    exp := latchOf evs s.exp
    trace := s.trace ++ evs
    calls := s.calls ++ evs.map (callOf s) }

@[simp] theorem runSequencer_idle (n : Nat) {s : State} (h : s.seq = .idle) : runSequencer n s = s := by
  induction n with
  | zero => rfl
  | succ n ih => simpa [runSequencer, seqAdvance, h] using ih

theorem runSequencer_succ (n : Nat) (s : State) : runSequencer (n + 1) s = runSequencer n (seqAdvance s) := rfl

/-- The probe: `HN_HI` when answered `READY`, otherwise `BusNotReady` (R135, R136). -/
theorem seqAdvance_probe {s : State} (h : s.seq = .probe) :
    seqAdvance s = match s.answerAt 0 with
      | .good => { afterEvents [.probe .ready] s with seq := .hnHi }
      | .bad => { afterEvents [.probe .notReady] s with seq := .idle, status := some .busNotReady } := by
  cases ha : s.answerAt 0 <;> simp only [seqAdvance, h, busProbe, ha, probeAnswer] <;> rfl

/-- A byte presented: `k` goes on from the state after the write, or the operation ends (R135). -/
theorem present_eq (b : Byte) (k : State → State) (s : State) :
    present b k s = match s.answerAt 0 with
      | .good => k { afterEvents [.write b .done] s with obr := b }
      | .bad =>
        { afterEvents [.write b .fail] s with obr := b, seq := .idle, status := some .busWriteFailure } := by
  have ha' : ({ s with obr := b } : State).answerAt 0 = s.answerAt 0 := rfl
  cases ha : s.answerAt 0 <;> simp only [present, busWrite, ha', ha, writeAnswer] <;> rfl

theorem answerAt_afterEvents (evs : List BusEvent) (s : State) (k : Nat) :
    (afterEvents evs s).answerAt k = s.answerAt (evs.length + k) :=
  answerAt_of_consumed k rfl rfl

theorem latchOf_append (as bs : List BusEvent) (e : Byte) : latchOf (as ++ bs) e = latchOf bs (latchOf as e) := by
  induction as generalizing e with
  | nil => rfl
  | cons a as ih => cases a with
    | probe a => simpa [latchOf] using ih e
    | write b a => cases a <;> simpa [latchOf] using ih _

theorem lastByteOf_append (as bs : List BusEvent) (o : Byte) :
    lastByteOf (as ++ bs) o = lastByteOf bs (lastByteOf as o) := by
  induction as generalizing o with
  | nil => rfl
  | cons a as ih => cases a <;> simpa [lastByteOf] using ih _

/-- Events issued in two runs are events issued in one. -/
theorem afterEvents_afterEvents (as bs : List BusEvent) (s : State) :
    afterEvents bs (afterEvents as s) = afterEvents (as ++ bs) s := by
  simp only [afterEvents, State.consume, latchOf_append, List.length_append, List.map_append, List.append_assoc,
    List.drop_drop, List.length_drop, State.mk.injEq, true_and, and_true]
  exact ⟨by congr 1, by omega⟩

/-- How many transactions the issue of a plan answers is how many events it gives. -/
theorem issue_shift (ans : Nat → Reply) (j : Nat) (ts : List Txn) (k : Nat) :
    issue (fun n => ans (j + n)) k ts = issue ans (j + k) ts := by
  induction ts generalizing k with
  | nil => rfl
  | cons t ts ih => cases t <;> simp only [issue, ih, Nat.add_assoc]

/-- A state in the middle of a transmission: after the events `evs`, with the sequencer at `q`. -/
def midXmit (s : State) (w : Word) (bl : Bit) (evs : List BusEvent) (q : Seq) (o : Byte) (st : Option Status) :
    State :=
  { afterEvents evs s with seq := q, iwr := w, blr := bl, obr := o, status := st }

theorem answerAt_midXmit (s : State) (w : Word) (bl : Bit) (evs : List BusEvent) (q : Seq) (o : Byte)
    (st : Option Status) : (midXmit s w bl evs q o st).answerAt 0 = s.answerAt evs.length :=
  answerAt_of_consumed 0 rfl rfl

theorem afterEvents_midXmit (s : State) (w : Word) (bl : Bit) (evs : List BusEvent) (q : Seq) (o : Byte)
    (st : Option Status) (e : BusEvent) :
    afterEvents [e] (midXmit s w bl evs q o st) = midXmit s w bl (evs ++ [e]) q o st := by
  rw [midXmit, midXmit, ← afterEvents_afterEvents]; rfl

/-- One presented byte in the middle of a transmission. -/
theorem present_midXmit (s : State) (w : Word) (bl : Bit) (evs : List BusEvent) (q : Seq) (o b : Byte)
    (st : Option Status) (k : State → State) :
    present b k (midXmit s w bl evs q o st) = match s.answerAt evs.length with
      | .good => k (midXmit s w bl (evs ++ [.write b .done]) q b st)
      | .bad => midXmit s w bl (evs ++ [.write b .fail]) .idle b (some .busWriteFailure) := by
  rw [present_eq, answerAt_midXmit, afterEvents_midXmit, afterEvents_midXmit]; rfl

/-- `XMIT` is the issue of its plan: the probe and the four bytes of R134 up to the first bad answer, the status
that answer gives, the latches, and nothing else (R130, R137, R138, R139). -/
theorem transmit_spec (iw : Storage) (bl : Bit) (s : State) :
    transmit iw bl s =
      let ts := xmitPlan (wordOf iw) bl
      let evs := issue s.answerAt 0 ts
      { afterEvents evs s with
        seq := .idle, iwr := wordOf iw, blr := bl, obr := lastByteOf evs s.obr
        status := some (issueStatus s.answerAt 0 ts) } := by
  have hb := bytesOf_eq_outByte (wordOf iw) bl
  have start : startXmit iw bl s = midXmit s (wordOf iw) bl [] .probe s.obr none := by
    simp [startXmit, midXmit, afterEvents, latchOf]
  have probe : seqAdvance (midXmit s (wordOf iw) bl [] .probe s.obr none) = match s.answerAt 0 with
      | .good => midXmit s (wordOf iw) bl [.probe .ready] .hnHi s.obr none
      | .bad => midXmit s (wordOf iw) bl [.probe .notReady] .idle s.obr (some .busNotReady) := by
    rw [seqAdvance_probe rfl, answerAt_midXmit, afterEvents_midXmit, afterEvents_midXmit]; rfl
  have hnHi (evs o) : seqAdvance (midXmit s (wordOf iw) bl evs .hnHi o none)
      = present (outByte (wordOf iw) bl .hi 1) (goto .hnLo) (midXmit s (wordOf iw) bl evs .hnHi o none) := rfl
  have hnLo (evs o) : seqAdvance (midXmit s (wordOf iw) bl evs .hnLo o none)
      = present (o &&& ~~~Config.M_EN) (goto .lnHi) (midXmit s (wordOf iw) bl evs .hnLo o none) := rfl
  have lnHi (evs o) : seqAdvance (midXmit s (wordOf iw) bl evs .lnHi o none)
      = present (outByte (wordOf iw) bl .lo 1) (goto .lnLo) (midXmit s (wordOf iw) bl evs .lnHi o none) := rfl
  have lnLo (evs o) : seqAdvance (midXmit s (wordOf iw) bl evs .lnLo o none)
      = present (o &&& ~~~Config.M_EN) (fun t => returnOk (goto .idle t))
          (midXmit s (wordOf iw) bl evs .lnLo o none) := rfl
  have move (evs q q' o) : goto q' (midXmit s (wordOf iw) bl evs q o none)
      = midXmit s (wordOf iw) bl evs q' o none := rfl
  simp only [transmit, start, runSequencer_succ, probe, xmitPlan, hb, issue, issueStatus, List.map_cons, List.map_nil]
  cases a0 : s.answerAt 0
  case bad => rfl
  simp only [hnHi, present_midXmit, List.length_cons, List.length_nil, move, Nat.zero_add]
  cases a1 : s.answerAt 1
  case bad => rfl
  simp only [hnLo, present_midXmit, outByte_clear_enable, List.length_append, List.length_cons, List.length_nil, move,
    Nat.zero_add, Nat.reduceAdd]
  cases a2 : s.answerAt 2
  case bad => rfl
  simp only [lnHi, present_midXmit, List.length_append, List.length_cons, List.length_nil, move, Nat.zero_add,
    Nat.reduceAdd]
  cases a3 : s.answerAt 3
  case bad => rfl
  simp only [lnLo, present_midXmit, outByte_clear_enable, List.length_append, List.length_cons, List.length_nil, move,
    Nat.zero_add, Nat.reduceAdd]
  cases a4 : s.answerAt 4
  case bad => rfl
  rfl

/-- One transition: one event, and a new sequencer value, status and output byte; nothing else (R135). -/
theorem seqAdvance_spec {s : State} (h : s.seq ≠ .idle) : ∃ (e : BusEvent) (q : Seq) (o : Byte) (st : Option Status),
    seqAdvance s = { afterEvents [e] s with seq := q, obr := o, status := st } ∧
      (q = .hnLo → o = outByte s.iwr s.blr .hi 1) ∧ (q = .lnLo → o = outByte s.iwr s.blr .lo 1) := by
  cases hq : s.seq
  case idle => exact absurd hq h
  case probe =>
    rw [seqAdvance_probe hq]
    cases s.answerAt 0 <;> exact ⟨_, _, _, _, rfl, nofun, nofun⟩
  all_goals
    simp only [seqAdvance, hq, present_eq]
    cases s.answerAt 0 <;> refine ⟨_, _, _, _, rfl, ?_, ?_⟩ <;> first | (intro h; cases h; done) | (intro _; rfl)

end Sys2Proof.Machine
end

