-- ==== Sys2Proof/Laws/Issue.lean ====
section
/-! SUPPORT. Operations as the issue of a list of transactions: the relation `Issues`, how it composes, and that the
transmitter, the string loop and the initialisation's loops are of that form. -/

namespace Sys2Proof.Machine

open Sys2Proof.Config (Reply)

/-- `t` is `s` after the transactions `ts` were issued up to the first bad answer, and nothing else but the
transmitter's latches has changed; the calls of the Delay primitive are left open. -/
structure Issues (ts : List Txn) (s t : State) : Prop where
  trace : t.trace = s.trace ++ issue s.answerAt 0 ts
  status : t.status = some (issueStatus s.answerAt 0 ts)
  exp : t.exp = latchOf (issue s.answerAt 0 ts) s.exp
  replies : t.replies = s.replies.drop (issue s.answerAt 0 ts).length
  draws : t.draws = s.draws + ((issue s.answerAt 0 ts).length - s.replies.length)
  calls : ∃ cs, t.calls = s.calls ++ cs ∧
    cs.filter (fun c => !isDelay c) = (issue s.answerAt 0 ts).map (callOf s)
  cfg : t.cfg = s.cfg
  curX : t.curX = s.curX
  curY : t.curY = s.curY
  offset : t.offset = s.offset
  handle : t.handle = s.handle
  handleSet : t.handleSet = s.handleSet
  result : t.result = s.result
  requests : t.requests = s.requests
  seq : s.seq = .idle → t.seq = .idle

theorem callOf_congr {s t : State} (hh : t.handle = s.handle) (hc : t.cfg = s.cfg) : callOf t = callOf s := by
  funext e; cases e <;> simp [callOf, hh, hc]

/-- As many events as transactions when none fails. -/
theorem issue_length_of_ok {ans : Nat → Reply} {ts : List Txn} {k : Nat} (h : issueStatus ans k ts = .ok) :
    (issue ans k ts).length = ts.length := by
  induction ts generalizing k with
  | nil => rfl
  | cons t ts ih =>
    cases t <;> cases ha : ans k <;> simp_all [issue, issueStatus]

/-- Issuing two lists in a row: the second follows only if the first ended with `OK`. -/
theorem issue_append (ans : Nat → Reply) (ts us : List Txn) (k : Nat) :
    issue ans k (ts ++ us) =
      if issueStatus ans k ts = .ok then issue ans k ts ++ issue ans (k + ts.length) us else issue ans k ts := by
  induction ts generalizing k with
  | nil => simp [issue, issueStatus]
  | cons t ts ih =>
    cases t <;> cases ha : ans k <;> simp [issue, issueStatus, ha, ih] <;> split <;>
      simp [Nat.add_assoc, Nat.add_comm 1]

theorem issueStatus_append (ans : Nat → Reply) (ts us : List Txn) (k : Nat) :
    issueStatus ans k (ts ++ us) =
      if issueStatus ans k ts = .ok then issueStatus ans (k + ts.length) us else issueStatus ans k ts := by
  induction ts generalizing k with
  | nil => simp [issueStatus]
  | cons t ts ih =>
    cases t <;> cases ha : ans k <;> simp [issueStatus, ha, ih, Nat.add_assoc, Nat.add_comm 1]

theorem issueStatus_shift (ans : Nat → Reply) (j : Nat) (ts : List Txn) (k : Nat) :
    issueStatus (fun n => ans (j + n)) k ts = issueStatus ans (j + k) ts := by
  induction ts generalizing k with
  | nil => rfl
  | cons t ts ih => cases t <;> simp only [issueStatus, ih, Nat.add_assoc]

/-- The answers seen after a list of transactions that ended with `OK`. -/
theorem Issues.answerAt {ts : List Txn} {s t : State} (h : Issues ts s t)
    (hok : issueStatus s.answerAt 0 ts = .ok) : t.answerAt = fun n => s.answerAt (ts.length + n) := by
  funext n
  rw [answerAt_of_consumed n h.replies h.draws, issue_length_of_ok hok]

/-- Two lists of transactions in a row, the second only if the first ended with `OK`. -/
theorem Issues.append {ts us : List Txn} {s t u : State} (h : Issues ts s t)
    (hok : t.status = some .ok → Issues us t u) (herr : t.status ≠ some .ok → u = t) :
    Issues (ts ++ us) s u := by
  by_cases hs : issueStatus s.answerAt 0 ts = .ok
  · have h2 := hok (by rw [h.status, hs])
    have ha := h.answerAt hs
    have hi : issue t.answerAt 0 us = issue s.answerAt ts.length us := by rw [ha, issue_shift, Nat.add_zero]
    have hst : issueStatus t.answerAt 0 us = issueStatus s.answerAt ts.length us := by
      rw [ha, issueStatus_shift, Nat.add_zero]
    have hl := issue_length_of_ok hs
    have ei : issue s.answerAt 0 (ts ++ us) = issue s.answerAt 0 ts ++ issue t.answerAt 0 us := by
      rw [issue_append, if_pos hs, hi, Nat.zero_add]
    obtain ⟨cs, hc1, hc2⟩ := h.calls
    obtain ⟨cs', hc1', hc2'⟩ := h2.calls
    exact {
      trace := by rw [h2.trace, h.trace, ei, List.append_assoc]
      status := by rw [h2.status, issueStatus_append, if_pos hs, hst, Nat.zero_add]
      exp := by rw [h2.exp, h.exp, ei, latchOf_append]
      replies := by rw [h2.replies, h.replies, ei, List.drop_drop, List.length_append]
      draws := by
        rw [h2.draws, h.draws, h.replies, ei, List.length_append, List.length_drop]; omega
      calls := ⟨cs ++ cs', by rw [hc1', hc1, List.append_assoc], by
        rw [List.filter_append, hc2, hc2', ei, List.map_append, callOf_congr h.handle h.cfg]⟩
      cfg := h2.cfg.trans h.cfg
      curX := h2.curX.trans h.curX
      curY := h2.curY.trans h.curY
      offset := h2.offset.trans h.offset
      handle := h2.handle.trans h.handle
      handleSet := h2.handleSet.trans h.handleSet
      result := h2.result.trans h.result
      requests := h2.requests.trans h.requests
      seq := fun hq => h2.seq (h.seq hq) }
  · have hu := herr (by rw [h.status]; simpa using hs)
    subst hu
    exact { h with
      trace := by rw [h.trace, issue_append, if_neg hs]
      status := by rw [h.status, issueStatus_append, if_neg hs]
      exp := by rw [h.exp, issue_append, if_neg hs]
      replies := by rw [h.replies, issue_append, if_neg hs]
      draws := by rw [h.draws, issue_append, if_neg hs]
      calls := by rw [issue_append, if_neg hs]; exact h.calls }

/-- Ending with `OK` issues nothing. -/
theorem returnOk_issues (s : State) : Issues [] s (returnOk s) := by
  constructor <;> simp [issue, issueStatus, latchOf]

/-- The status the operation before left does not matter. -/
theorem Issues.returnOk_left {ts : List Txn} {s u : State} (h : Issues ts s u) : Issues ts (returnOk s) u :=
  { h with }

/-- A delay changes nothing but the record of calls (R175). -/
theorem Issues.after_delay {ts : List Txn} {s t : State} (ms : Nat) (h : Issues ts (delay ms s) t) :
    Issues ts s t := by
  obtain ⟨cs, h1, h2⟩ := h.calls
  exact { h with calls := ⟨.delay ms :: cs, by simpa using h1, h2⟩ }

theorem callOf_isDelay (s : State) (evs : List BusEvent) :
    (evs.map (callOf s)).filter (fun c => !isDelay c) = evs.map (callOf s) := by
  rw [List.filter_eq_self]
  intro c hc
  obtain ⟨e, -, rfl⟩ := List.mem_map.mp hc
  cases e <;> rfl

/-- `XMIT` issues its plan. -/
theorem transmit_issues (iw : Storage) (bl : Bit) (s : State) :
    Issues (xmitPlan (wordOf iw) bl) s (transmit iw bl s) := by
  rw [transmit_spec]
  constructor <;> try rfl
  · exact ⟨_, rfl, callOf_isDelay ..⟩
  · exact fun _ => rfl

/-- One raw write and what follows it only if it was answered `DONE` (R172). -/
theorem busWrite_issues {ts : List Txn} {b : Byte} {s u : State}
    (hdone : (busWrite b s).1 = .done → Issues ts (busWrite b s).2 u)
    (hfail : (busWrite b s).1 = .fail → u = raise .busWriteFailure (busWrite b s).2) :
    Issues (.write b :: ts) s u := by
  have one : Issues [.write b] s
      (if (busWrite b s).1 = .done then returnOk (busWrite b s).2 else raise .busWriteFailure (busWrite b s).2) := by
    cases ha : s.answerAt 0 <;>
      constructor <;> simp [busWrite, writeAnswer, ha, issue, issueStatus, latchOf, latchAfter, callOf] <;> rfl
  rcases hb : (busWrite b s).1 with _ | _
  · rw [if_pos hb] at one
    exact one.append (us := ts) (fun _ => (hdone hb).returnOk_left) (fun h => absurd rfl h)
  · rw [if_neg (by rw [hb]; decide), ← hfail hb] at one
    refine one.append (us := ts) (fun h => ?_) (fun _ => rfl)
    rw [hfail hb] at h
    cases h

/-- The raw writes of the preamble, without probes (R172, R173). -/
theorem rawWrites_issues (steps : List (Byte × Nat)) (s : State) :
    Issues (steps.map fun p => .write p.1) s (rawWrites steps s) := by
  induction steps generalizing s with
  | nil => exact returnOk_issues s
  | cons p steps ih =>
    refine busWrite_issues (fun h => ?_) (fun h => ?_)
    · have : rawWrites (p :: steps) s = rawWrites steps (delay p.2 (busWrite p.1 s).2) := by
        rw [rawWrites]; split <;> simp_all
      rw [this]
      exact (ih _).after_delay
    · rw [rawWrites]; split <;> simp_all

/-- `ifOk` between two issues. -/
theorem Issues.ifOk {ts us : List Txn} {s t : State} {k : State → State} (h : Issues ts s t)
    (hk : Issues us t (k t)) : Issues (ts ++ us) s (ifOk t k) :=
  h.append (fun hs => by rwa [ifOk_ok _ hs]) (fun hs => ifOk_error _ hs)

/-- Timed transmissions (R172). -/
theorem timedWords_issues (bl : Bit) (ws : List (Word × Nat)) (s : State) :
    Issues (ws.flatMap fun p => xmitPlan p.1 bl) s (timedWords bl ws s) := by
  induction ws generalizing s with
  | nil => exact returnOk_issues s
  | cons p ws ih =>
    have h := transmit_issues (storageOf p.1) bl s
    rw [wordOf_storageOf] at h
    exact h.ifOk (ih _).after_delay

/-- The string loop (R180). -/
theorem sendString_issues (bl : Bit) (cs : List Byte) (s : State) :
    Issues (cs.flatMap fun c => xmitPlan (wordWdata c) bl) s (sendString bl cs s) := by
  induction cs generalizing s with
  | nil => exact returnOk_issues s
  | cons c cs ih =>
    have h := transmit_issues (storageOf (wordWdata c)) bl s
    rw [wordOf_storageOf] at h
    exact h.ifOk (ih _)

end Sys2Proof.Machine
end

