-- ==== Sys2Proof/Laws/PerInstr.lean ====
section
/-! SUPPORT. The family `CanonWf`, one lemma per instruction: clearing the operand bits that the encoding drops
gives a well-formed instruction with the same encoding (spec/30_encoding.md R87, R122). -/

namespace Sys2Proof.Laws

/-- `i.canonical` is well-formed and is encoded as `i` is. -/
def CanonWf.Statement (i : Instr) : Prop := i.canonical.wellFormed = true ∧ encode i.canonical = encode i

theorem CanonWf.mask6 (a : Byte) : (a &&& 0x3F).toNat < 64 ∧ (a &&& 0x3F).extractLsb' 0 6 = a.extractLsb' 0 6 := by
  revert a; decide +kernel

theorem CanonWf.mask7 (a : Byte) : (a &&& 0x7F).toNat < 128 ∧ (a &&& 0x7F).extractLsb' 0 7 = a.extractLsb' 0 7 := by
  revert a; decide +kernel

theorem CanonWf.iwClear : CanonWf.Statement .iwClear :=
  ⟨rfl, rfl⟩

theorem CanonWf.iwHome : CanonWf.Statement .iwHome :=
  ⟨rfl, rfl⟩

theorem CanonWf.iwEntry (inc sh : Bit) : CanonWf.Statement (.iwEntry inc sh) :=
  ⟨rfl, rfl⟩

theorem CanonWf.iwDisp (d c b : Bit) : CanonWf.Statement (.iwDisp d c b) :=
  ⟨rfl, rfl⟩

theorem CanonWf.iwShift (sd r : Bit) : CanonWf.Statement (.iwShift sd r) :=
  ⟨rfl, rfl⟩

theorem CanonWf.iwFunc (n f : Bit) : CanonWf.Statement (.iwFunc n f) :=
  ⟨rfl, rfl⟩

theorem CanonWf.iwCgaddr (a : Byte) : CanonWf.Statement (.iwCgaddr a) :=
  ⟨decide_eq_true (mask6 a).1, congrArg (fun v => iwRequest (0b0001#4 ++ v)) (mask6 a).2⟩

theorem CanonWf.iwDdaddr (a : Byte) : CanonWf.Statement (.iwDdaddr a) :=
  ⟨decide_eq_true (mask7 a).1, congrArg (fun v => iwRequest (0b001#3 ++ v)) (mask7 a).2⟩

theorem CanonWf.iwWdata (d : Byte) : CanonWf.Statement (.iwWdata d) :=
  ⟨rfl, rfl⟩

theorem CanonWf.iwRbusy : CanonWf.Statement .iwRbusy :=
  ⟨rfl, rfl⟩

theorem CanonWf.iwRdata : CanonWf.Statement .iwRdata :=
  ⟨rfl, rfl⟩

theorem CanonWf.xmit (iw : Storage) (bl : Bit) : CanonWf.Statement (.xmit iw bl) :=
  ⟨rfl, rfl⟩

theorem CanonWf.move (x y : Byte) (bl : Bit) : CanonWf.Statement (.move x y bl) :=
  ⟨rfl, rfl⟩

theorem CanonWf.shift (mode : Bit) (dir : Byte) (bl : Bit) : CanonWf.Statement (.shift mode dir bl) :=
  ⟨rfl, rfl⟩

theorem CanonWf.rddata : CanonWf.Statement .rddata :=
  ⟨rfl, rfl⟩

theorem CanonWf.rdbusy : CanonWf.Statement .rdbusy :=
  ⟨rfl, rfl⟩

theorem CanonWf.init (h : Handle) : CanonWf.Statement (.init h) :=
  ⟨rfl, rfl⟩

theorem CanonWf.clear : CanonWf.Statement .clear :=
  ⟨rfl, rfl⟩

theorem CanonWf.movecursor (x y : Byte) : CanonWf.Statement (.movecursor x y) :=
  ⟨rfl, rfl⟩

theorem CanonWf.showchar (c : Byte) : CanonWf.Statement (.showchar c) :=
  ⟨rfl, rfl⟩

theorem CanonWf.showstr (cs : List Byte) : CanonWf.Statement (.showstr cs) :=
  ⟨rfl, rfl⟩

theorem CanonWf.shiftdisplay (right : Bit) : CanonWf.Statement (.shiftdisplay right) :=
  ⟨rfl, rfl⟩

theorem CanonWf.ob (n : BitVec 4) (bl en rw rs : Bit) : CanonWf.Statement (.ob n bl en rw rs) :=
  ⟨rfl, rfl⟩

end Sys2Proof.Laws
end

