-- ==== Sys2Proof/Machine/Flags.lean ====
section
/-! DEFINITION. The hardware has no flags or condition codes and no operation sets one (spec/10_state.md R36).
What it has in their place are the status of an operation and the sequencer's value; their numbers are the
spec's own and no rule depends on them (R27, R191; D6, D13). -/

namespace Sys2Proof.Machine

/-- The status codes (R191). -/
def Status.code (st : Status) : Nat :=
  match st with
  | .ok => 0
  | .busNotReady => 1
  | .busWriteFailure => 2
  | .invalidParameter => 3

/-- The sequencer's encoding (R27). -/
def Seq.code (q : Seq) : BitVec 3 :=
  match q with
  | .idle => 0
  | .probe => 1
  | .hnHi => 2
  | .hnLo => 3
  | .lnHi => 4
  | .lnLo => 5

end Sys2Proof.Machine
end

