-- ==== Sys2Proof/Tests/Slice0.lean ====
section
/-! SUPPORT. The model's own tests, their expected values from spec/95_test_vectors.md and the encodings of
spec/30_encoding.md, and for every statement with hypotheses a named theorem (`witness_…`) that meets them. -/

namespace Sys2Proof.Tests

open Sys2Proof Sys2Proof.Machine
open Sys2Proof.Config (Reply Params)

/-! ### The ill-formed terms that the check refuses, and the bounds it accepts (R87) -/

theorem test_wellFormed_refuses_cgaddr : (Instr.iwCgaddr 0x40).wellFormed = false := by decide
theorem test_wellFormed_accepts_cgaddr : (Instr.iwCgaddr 0x3F).wellFormed = true := by decide
theorem test_wellFormed_refuses_ddaddr : (Instr.iwDdaddr 0x80).wellFormed = false := by decide
theorem test_wellFormed_accepts_ddaddr : (Instr.iwDdaddr 0x7F).wellFormed = true := by decide

/-! ### Decoding words written out from the spec's encodings -/

/-- The patterns of R91, most significant bit first, operands chosen to tell the bits apart. -/
theorem test_decode_command_words :
    decodeWord 0b0000000001#10 = some .iwClear ∧ decodeWord 0b0000000010#10 = some .iwHome ∧
    decodeWord 0b0000000110#10 = some (.iwEntry 1 0) ∧ decodeWord 0b0000000101#10 = some (.iwEntry 0 1) ∧
    decodeWord 0b0000001100#10 = some (.iwDisp 1 0 0) ∧ decodeWord 0b0000001010#10 = some (.iwDisp 0 1 0) ∧
    decodeWord 0b0000001001#10 = some (.iwDisp 0 0 1) ∧ decodeWord 0b0000011000#10 = some (.iwShift 1 0) ∧
    decodeWord 0b0000010100#10 = some (.iwShift 0 1) ∧ decodeWord 0b0000101000#10 = some (.iwFunc 1 0) ∧
    decodeWord 0b0000100100#10 = some (.iwFunc 0 1) := by decide

theorem test_decode_address_and_data_words :
    decodeWord 0b0001000000#10 = some (.iwCgaddr 0x00) ∧ decodeWord 0b0001111111#10 = some (.iwCgaddr 0x3F) ∧
    decodeWord 0b0010000000#10 = some (.iwDdaddr 0x00) ∧ decodeWord 0b0011100111#10 = some (.iwDdaddr 0x67) ∧
    decodeWord 0b1001000001#10 = some (.iwWdata 0x41) ∧ decodeWord 0b1011111111#10 = some (.iwWdata 0xFF) ∧
    decodeWord 0b0100000000#10 = some .iwRbusy ∧ decodeWord 0b1100000000#10 = some .iwRdata := by decide

/-- A word in its storage, the less significant byte first, bits 15:10 ignored (R82, R95). -/
theorem test_decode_word_in_storage :
    decode ⟨.iw, [0b01000001#8, 0b00000010#8]⟩ = .ok (.iwWdata 0x41) ∧
    decode ⟨.iw, [0b01000001#8, 0b11111110#8]⟩ = .ok (.iwWdata 0x41) ∧
    decode ⟨.iw, [0b01000001#8]⟩ = .error .badLength := by decide

/-- R93: words that no builder function produces, of each kind. -/
theorem test_decode_refuses_words_nothing_produces :
    decodeWord 0x000 = none ∧ decodeWord 0x003 = none ∧ decodeWord 0x011 = none ∧ decodeWord 0x01F = none ∧
    decodeWord 0x021 = none ∧ decodeWord 0x030 = none ∧ decodeWord 0x03C = none ∧ decodeWord 0x101 = none ∧
    decodeWord 0x1FF = none ∧ decodeWord 0x301 = none ∧ decodeWord 0x3FF = none ∧
    decode ⟨.iw, [0x03, 0x00]⟩ = .error (.noFunction 0x003) := by decide

/-- R85's selectors and operand lists, one record for each operation. -/
theorem test_decode_core_requests :
    decode ⟨.cmd, [0b0000#4 ++ 0b0000#4, 0x41, 0x02, 0x01]⟩ = .ok (.xmit 0x0241 1) ∧
    decode ⟨.cmd, [0b0000#4 ++ 0b0001#4, 0x27, 0x01, 0x00]⟩ = .ok (.move 39 1 0) ∧
    decode ⟨.cmd, [0b0000#4 ++ 0b0001#4, 0xFF, 0x80, 0x01]⟩ = .ok (.move (-1) (-128) 1) ∧
    decode ⟨.cmd, [0b0000#4 ++ 0b0010#4, 0x01, 0x02, 0x00]⟩ = .ok (.shift 1 2 0) ∧
    decode ⟨.cmd, [0b0000#4 ++ 0b0011#4]⟩ = .ok .rddata ∧
    decode ⟨.cmd, [0b0000#4 ++ 0b0100#4]⟩ = .ok .rdbusy := by decide

theorem test_decode_facade_requests :
    decode ⟨.cmd, [0b0000#4 ++ 0b1000#4, 0x01, 0x02]⟩ = .ok (.init [0x01, 0x02]) ∧
    decode ⟨.cmd, [0b0000#4 ++ 0b1001#4]⟩ = .ok .clear ∧
    decode ⟨.cmd, [0b0000#4 ++ 0b1010#4, 0x05, 0x01]⟩ = .ok (.movecursor 5 1) ∧
    decode ⟨.cmd, [0b0000#4 ++ 0b1011#4, 0x41]⟩ = .ok (.showchar 0x41) ∧
    decode ⟨.cmd, [0b0000#4 ++ 0b1100#4, 0x48, 0x69]⟩ = .ok (.showstr [0x48, 0x69]) ∧
    decode ⟨.cmd, [0b0000#4 ++ 0b1101#4, 0x01]⟩ = .ok (.shiftdisplay 1) := by decide

/-- The selectors of U10, bytes above them, and records of the wrong shape. -/
theorem test_decode_refuses_bad_requests :
    decode ⟨.cmd, [5]⟩ = .error (.noOperation 5) ∧ decode ⟨.cmd, [6]⟩ = .error (.noOperation 6) ∧
    decode ⟨.cmd, [7]⟩ = .error (.noOperation 7) ∧ decode ⟨.cmd, [14]⟩ = .error (.noOperation 14) ∧
    decode ⟨.cmd, [15]⟩ = .error (.noOperation 15) ∧ decode ⟨.cmd, [16]⟩ = .error (.noOperation 16) ∧
    decode ⟨.cmd, []⟩ = .error .badLength ∧ decode ⟨.cmd, [9, 0]⟩ = .error (.operandCount 9) ∧
    decode ⟨.cmd, [1, 0, 0, 2]⟩ = .error (.badFlag 2) ∧ decode ⟨.ob, []⟩ = .error .badLength := by decide

/-- `nnnnbewr` (R83). -/
theorem test_decode_output_bytes :
    decode ⟨.ob, [0b01001101#8]⟩ = .ok (.ob 0x4 1 1 0 1) ∧
    decode ⟨.ob, [0b00010010#8]⟩ = .ok (.ob 0x1 0 0 1 0) := by decide

/-- The opcode table's numbering: bit 0 is the least significant bit of the word. -/
theorem test_decodeTableWord :
    decodeTableWord 16 0x241 = some (.iwWdata 0x41) ∧ decodeTableWord 8 9 = some .clear ∧
    decodeTableWord 8 1 = some (.move 0 0 0) ∧ decodeTableWord 8 0x4D = some (.ob 0x4 1 1 0 1) := by decide

/-! ### Small states -/

/-- Fixed parameters: bus address 0x27, time-outs 10 and 20, the spec's defaults elsewhere. -/
def params : Params := { Params.initial with busAddr7 := 0x27, tProbe := 10, tWrite := 20, tSettle := 1 }

/-- An idle machine with a handle, at position `(x, y, o)`, the environment's next answers given. -/
def at_ (x : BitVec 6) (y : BitVec 1) (o : BitVec 6) (replies : List Reply) : State :=
  { State.reset with
    cfg := params, curX := x, curY := y, offset := o, handle := [0xAB], handleSet := true, exp := 0x5A
    replies := replies }

/-- `n` good answers. -/
def good (n : Nat) : List Reply := List.replicate n .good

/-- `n` good answers, then a bad one. -/
def badAfter (n : Nat) : List Reply := good n ++ [.bad]

/-- Writes answered `DONE`. -/
def done (bs : List Byte) : List BusEvent := bs.map fun b => .write b .done

/-- `P b b …` (R10). -/
def sent (bs : List Byte) : List BusEvent := .probe .ready :: done bs

/-- `exec i s` ends with these events, this status, this position and this latch, and `SEQ = IDLE`. -/
def ends (i : Instr) (s : State) (evs : List BusEvent) (st : Status) (pos : Nat × Nat × Nat) (e : Byte) : Bool :=
  match exec i s with
  | .next t => t.trace == s.trace ++ evs && t.status == some st && t.seq == .idle && t.exp == e &&
      (t.curX.toNat, t.curY.toNat, t.offset.toNat) == pos
  | .fault _ => false
  | .refused _ => false

/-- `exec i s` changes nothing but the returned value, which is `v`. -/
def returns (i : Instr) (s : State) (v : Value) : Bool :=
  match exec i s with
  | .next t => t == { s with result := some v }
  | .fault _ => false
  | .refused _ => false

/-- `exec i s` is refused, for the reason `r`. -/
def refusedFor (i : Instr) (s : State) (r : Refusal) : Bool :=
  match exec i s with
  | .next _ => false
  | .fault _ => false
  | .refused r' => r' == r

/-- The state `exec i s` answers, or `s`. -/
def after (i : Instr) (s : State) : State :=
  match exec i s with
  | .next t => t
  | .fault _ => s
  | .refused _ => s

/-- The state `step s` answers, or `s`. -/
def next (s : State) : State :=
  match step s with
  | .next t => t
  | .fault _ => s
  | .refused _ => s

/-- `step s` answers a next state. -/
def steps (s : State) : Bool :=
  match step s with
  | .next _ => true
  | .fault _ => false
  | .refused _ => false

/-! ### The builder functions (V310) -/

theorem test_iwClear : returns .iwClear (at_ 3 1 4 []) (.word 0x001) = true := by decide
theorem test_iwHome : returns .iwHome (at_ 3 1 4 []) (.word 0x002) = true := by decide
theorem test_iwEntry : returns (.iwEntry 1 0) (at_ 3 1 4 []) (.word 0x006) = true := by decide
theorem test_iwDisp : returns (.iwDisp 1 1 0) (at_ 3 1 4 []) (.word 0x00E) = true := by decide
theorem test_iwShift : returns (.iwShift 1 0) (at_ 3 1 4 []) (.word 0x018) = true := by decide
theorem test_iwFunc : returns (.iwFunc 1 0) (at_ 3 1 4 []) (.word 0x028) = true := by decide
theorem test_iwCgaddr_masks : returns (.iwCgaddr 0xFF) (at_ 3 1 4 []) (.word 0x07F) = true := by decide
theorem test_iwDdaddr_masks : returns (.iwDdaddr 0xFF) (at_ 3 1 4 []) (.word 0x0FF) = true := by decide
theorem test_iwDdaddr : returns (.iwDdaddr 0x67) (at_ 3 1 4 []) (.word 0x0E7) = true := by decide
theorem test_iwWdata : returns (.iwWdata 0xA5) (at_ 3 1 4 []) (.word 0x2A5) = true := by decide
theorem test_iwRbusy : returns .iwRbusy (at_ 3 1 4 []) (.word 0x100) = true := by decide
theorem test_iwRdata : returns .iwRdata (at_ 3 1 4 []) (.word 0x300) = true := by decide

/-- Write 1 of V305: `0100 1 1 0 1`. -/
theorem test_ob : returns (.ob 0b0100 1 1 0 1) (at_ 3 1 4 []) (.byte 0x4D) = true := by decide

/-! ### The transmitter (V305, V306, V311) -/

theorem test_xmit_write_data :
    ends (.xmit 0xFE41 1) (at_ 3 1 4 (good 5)) (sent [0x4D, 0x49, 0x1D, 0x19]) .ok (3, 1, 4) 0x19 = true := by
  decide

theorem test_xmit_failures :
    ends (.xmit 0x241 1) (at_ 3 1 4 [.bad]) [.probe .notReady] .busNotReady (3, 1, 4) 0x5A = true ∧
    ends (.xmit 0x241 1) (at_ 3 1 4 (badAfter 1)) (sent [] ++ [.write 0x4D .fail]) .busWriteFailure (3, 1, 4) 0x5A
      = true ∧
    ends (.xmit 0x241 1) (at_ 3 1 4 (badAfter 2)) (sent [0x4D] ++ [.write 0x49 .fail]) .busWriteFailure (3, 1, 4)
      0x4D = true ∧
    ends (.xmit 0x241 1) (at_ 3 1 4 (badAfter 3)) (sent [0x4D, 0x49] ++ [.write 0x1D .fail]) .busWriteFailure
      (3, 1, 4) 0x49 = true ∧
    ends (.xmit 0x241 1) (at_ 3 1 4 (badAfter 4)) (sent [0x4D, 0x49, 0x1D] ++ [.write 0x19 .fail])
      .busWriteFailure (3, 1, 4) 0x1D = true := by decide

/-! ### The tracker (V301, V312 to V314) -/

theorem test_move :
    ends (.move 3 1 1) (at_ 0 0 5 (good 5)) (sent [0xEC, 0xE8, 0x6C, 0x68]) .ok (3, 1, 5) 0x68 = true ∧
    ends (.move 39 0 1) (at_ 0 0 39 (good 5)) (sent [0x8C, 0x88, 0x0C, 0x08]) .ok (39, 0, 39) 0x08 = true ∧
    ends (.move 9 0 1) (at_ 5 1 7 (badAfter 1)) (sent [] ++ [.write 0x8C .fail]) .busWriteFailure (9, 0, 7) 0x5A
      = true := by decide

theorem test_move_invalid :
    ends (.move (-1) 0 1) (at_ 5 1 7 []) [] .invalidParameter (5, 1, 7) 0x5A = true ∧
    ends (.move 40 0 1) (at_ 5 1 7 []) [] .invalidParameter (5, 1, 7) 0x5A = true ∧
    ends (.move 0 (-1) 1) (at_ 5 1 7 []) [] .invalidParameter (5, 1, 7) 0x5A = true ∧
    ends (.move 0 2 1) (at_ 5 1 7 []) [] .invalidParameter (5, 1, 7) 0x5A = true ∧
    ends (.move 127 (-128) 0) (at_ 5 1 7 []) [] .invalidParameter (5, 1, 7) 0x5A = true := by decide

theorem test_shift :
    ends (.shift 1 1 1) (at_ 0 0 39 (good 5)) (sent [0x1C, 0x18, 0xCC, 0xC8]) .ok (0, 0, 0) 0xC8 = true ∧
    ends (.shift 1 0 0) (at_ 7 1 12 (good 5)) (sent [0x14, 0x10, 0x84, 0x80]) .ok (7, 1, 11) 0x80 = true ∧
    ends (.shift 0 1 1) (at_ 39 1 3 (good 5)) (sent [0x1C, 0x18, 0x4C, 0x48]) .ok (0, 0, 3) 0x48 = true ∧
    ends (.shift 0 0 1) (at_ 0 0 0 (good 5)) (sent [0x1C, 0x18, 0x0C, 0x08]) .ok (39, 1, 0) 0x08 = true := by decide

theorem test_shift_invalid_or_failed :
    ends (.shift 0 255 1) (at_ 5 1 7 []) [] .invalidParameter (5, 1, 7) 0x5A = true ∧
    ends (.shift 1 1 1) (at_ 5 1 7 [.bad]) [.probe .notReady] .busNotReady (5, 1, 8) 0x5A = true ∧
    ends (.shift 0 1 1) (at_ 39 0 0 (badAfter 2)) (sent [0x1C] ++ [.write 0x18 .fail]) .busWriteFailure (0, 1, 0)
      0x1C = true := by decide

/-! ### The stubs and the façade (V307, V315, V324) -/

theorem test_rddata : ends .rddata (at_ 3 1 4 []) [] .ok (3, 1, 4) 0x5A = true := by decide
theorem test_rdbusy : ends .rdbusy (at_ 3 1 4 []) [] .ok (3, 1, 4) 0x5A = true := by decide

theorem test_clear :
    ends .clear (at_ 3 1 4 (good 5)) (sent [0x0C, 0x08, 0x1C, 0x18]) .ok (3, 1, 4) 0x18 = true ∧
    refusedFor .clear { at_ 3 1 4 [] with handleSet := false } .notInitialised = true := by decide

theorem test_movecursor :
    ends (.movecursor 0 0) (at_ 3 1 4 (good 5)) (sent [0xAC, 0xA8, 0x4C, 0x48]) .ok (0, 0, 4) 0x48 = true ∧
    ends (.movecursor 0 2) (at_ 3 1 4 []) [] .invalidParameter (3, 1, 4) 0x5A = true := by decide

theorem test_showchar :
    ends (.showchar 0x41) (at_ 3 1 4 (good 5)) (sent [0x4D, 0x49, 0x1D, 0x19]) .ok (3, 1, 4) 0x19 = true := by
  decide

theorem test_showstr :
    ends (.showstr []) (at_ 3 1 4 []) [] .ok (3, 1, 4) 0x5A = true ∧
    ends (.showstr [0x48, 0x69]) (at_ 3 1 4 (good 10))
      (sent [0x4D, 0x49, 0x8D, 0x89] ++ sent [0x6D, 0x69, 0x9D, 0x99]) .ok (3, 1, 4) 0x99 = true := by decide

theorem test_showstr_stops :
    ends (.showstr [0x41, 0x42]) (at_ 3 1 4 (badAfter 5)) (sent [0x4D, 0x49, 0x1D, 0x19] ++ [.probe .notReady])
      .busNotReady (3, 1, 4) 0x19 = true := by decide

theorem test_shiftdisplay :
    ends (.shiftdisplay 1) (at_ 3 1 4 (good 5)) (sent [0x1C, 0x18, 0xCC, 0xC8]) .ok (3, 1, 5) 0xC8 = true ∧
    ends (.shiftdisplay 0) (at_ 3 1 4 (good 5)) (sent [0x1C, 0x18, 0x8C, 0x88]) .ok (3, 1, 3) 0x88 = true := by
  decide

theorem test_init :
    ends (.init [0x11]) { at_ 0 0 0 (good 28) with handleSet := false }
      (done [0x3C, 0x38, 0x3C, 0x38, 0x3C, 0x38, 0x2C, 0x28] ++ sent [0x2C, 0x28, 0x8C, 0x88] ++
        sent [0x0C, 0x08, 0xEC, 0xE8] ++ sent [0x0C, 0x08, 0x1C, 0x18] ++ sent [0x0C, 0x08, 0x7C, 0x78])
      .ok (0, 0, 0) 0x78 = true := by decide

/-- The probe of the Display Control step answered `NOT_READY`. -/
theorem test_init_stops :
    ends (.init [0x11]) (at_ 0 0 0 (badAfter 13))
      (done [0x3C, 0x38, 0x3C, 0x38, 0x3C, 0x38, 0x2C, 0x28] ++ sent [0x2C, 0x28, 0x8C, 0x88] ++ [.probe .notReady])
      .busNotReady (0, 0, 0) 0x88 = true ∧
    (after (.init [0x11]) (at_ 0 0 0 (badAfter 13))).handle = [0x11] := by decide

/-- R53, R54: the write form of the address, and the two time-outs. -/
theorem test_calls_of_xmit :
    (after (.xmit 0x241 1) (at_ 0 0 0 (badAfter 1))).calls =
      [.probe [0xAB] 0x4E 10, .write [0xAB] 0x4E 0x4D 20] := by decide

/-! ### One step, the codes, and reset -/

/-- A step takes the head of the requests; in the middle of a transmission it makes one transaction (R135). -/
theorem test_step :
    (next { at_ 0 0 0 (good 5) with requests := [⟨.cmd, [9]⟩, ⟨.cmd, [3]⟩] }).requests = [⟨.cmd, [3]⟩] ∧
    (next { at_ 0 0 0 (good 5) with requests := [⟨.cmd, [9]⟩] }).trace = sent [0x0C, 0x08, 0x1C, 0x18] ∧
    (next { at_ 0 0 0 (good 1) with seq := .lnHi, iwr := 0x241, blr := 1 }).trace = done [0x1D] ∧
    (next { at_ 0 0 0 (good 1) with seq := .lnHi, iwr := 0x241, blr := 1 }).seq = .lnLo := by decide

/-- From reset, a word placed as the next request runs first. -/
theorem test_withFetchWord_from_reset :
    (next (State.reset.withFetchWord 16 0x241)).result = some (.word 0x241) ∧
    (next (State.reset.withFetchWord 8 3)).status = some .ok ∧
    (next (State.reset.withFetchWord 8 0x4D)).result = some (.byte 0x4D) ∧
    steps (State.reset.withFetchWord 8 0) = true ∧ steps (State.reset.withFetchWord 8 8) = true := by decide

/-- R27, R191. -/
theorem test_codes :
    [Seq.idle, .probe, .hnHi, .hnLo, .lnHi, .lnLo].map Seq.code = [0, 1, 2, 3, 4, 5] ∧
    [Status.ok, .busNotReady, .busWriteFailure, .invalidParameter].map Status.code = [0, 1, 2, 3] := by decide

/-- G2 and the lengths R175 fixes. -/
theorem test_reset_parameters :
    State.reset.cfg.initRaw = [0x3C, 0x38, 0x3C, 0x38, 0x3C, 0x38, 0x2C, 0x28] ∧
    State.reset.cfg.initDelays = [50, 1, 5, 1, 1, 1, 1, 1, 1, 1, 1, 2, 1] ∧ State.reset.cfg.facadeBl = 1 := by decide

/-! ### Witnesses: the hypotheses of the statements are met

Each is named after its statement; the clauses of one statement are met one by one, at the ends of their ranges. -/

/-- `exec i s` answers a next state. -/
def completes (i : Instr) (s : State) : Bool :=
  match exec i s with
  | .next _ => true
  | .fault _ => false
  | .refused _ => false

theorem witness_DecodeOfEncodeIsTheInstruction :
    (Instr.iwCgaddr 0x3F).wellFormed = true ∧ (Instr.iwDdaddr 0x7F).wellFormed = true ∧
    (Instr.move 0x80 0xFF 1).wellFormed = true := by decide

theorem witness_EncodeOfDecodeIsTheRequest :
    decode ⟨.iw, [0x41, 0xFE]⟩ = .ok (.iwWdata 0x41) ∧ decode ⟨.cmd, [12]⟩ = .ok (.showstr []) ∧
    decode ⟨.ob, [0xFF]⟩ = .ok (.ob 15 1 1 1 1) := by decide

theorem witness_BuilderWordIsReadBack :
    isBuilder (.iwCgaddr 0x40) = true ∧ isBuilder (.iwCgaddr 0x00) = true ∧
    after (.iwCgaddr 0x40) (at_ 3 1 4 []) = after (.iwCgaddr 0x00) (at_ 3 1 4 []) ∧
    completes (.iwCgaddr 0x40) (at_ 3 1 4 []) = true := by decide

theorem witness_BuilderWordIsReadBack_same_outcome :
    exec (.iwCgaddr 0x40) (at_ 3 1 4 []) = exec (.iwCgaddr 0x00) (at_ 3 1 4 []) := rfl

/-- Words at the ends of R93's ranges. -/
theorem witness_WordsNothingProducesAreTransmittedAllTheSame :
    (0x0FF : Word).toNat < 256 ∧ (0x000 : Word).toNat < 256 ∧ decodeWord 0x011 = none ∧ decodeWord 0x03F = none ∧
    (at_ 3 1 4 (good 5)).seq = .idle ∧ AllGood (at_ 3 1 4 (good 5)) 5 := by decide

theorem witness_UpperStorageBitsHaveNoEffect :
    (0xFE41 : Storage).setWidth 10 = (0x0241 : Storage).setWidth 10 ∧ (0xFE41 : Storage) ≠ 0x0241 ∧
    isBuilder (.iwWdata 0xFF) = true := by decide

/-- Also for the other statements over `SendsBytes`: BuilderCommandWords, BuilderAddressWords, OutputByteFormat,
FourBytesGiveBackWordAndFlag. -/
theorem witness_WriteDataWord :
    completes (.xmit (0b00000010#8 ++ 0x41#8) 1) (at_ 3 1 4 (badAfter 2)) = true ∧
    (at_ 3 1 4 (good 5)).seq = .idle ∧ AllGood (at_ 3 1 4 (good 5)) 5 := by decide

theorem witness_BuildersArePureAndTotal : isBuilder .iwRdata = true ∧ isBuilder (.iwDisp 1 1 1) = true := by decide

/-- The six rows of R138. -/
theorem witness_XmitHasSixOutcomes :
    bytesOf ((0x241 : Storage).setWidth 10) 1 = [0x4D, 0x49, 0x1D, 0x19] ∧ (at_ 3 1 4 [.bad]).seq = .idle ∧
    (at_ 3 1 4 [.bad]).answerAt 0 = .bad ∧
    (AllGood (at_ 3 1 4 (badAfter 1)) 1 ∧ (at_ 3 1 4 (badAfter 1)).answerAt 1 = .bad) ∧
    (AllGood (at_ 3 1 4 (badAfter 2)) 2 ∧ (at_ 3 1 4 (badAfter 2)).answerAt 2 = .bad) ∧
    (AllGood (at_ 3 1 4 (badAfter 3)) 3 ∧ (at_ 3 1 4 (badAfter 3)).answerAt 3 = .bad) ∧
    (AllGood (at_ 3 1 4 (badAfter 4)) 4 ∧ (at_ 3 1 4 (badAfter 4)).answerAt 4 = .bad) ∧
    AllGood (at_ 3 1 4 (good 5)) 5 := by decide

theorem witness_XmitFrame :
    completes (.xmit 0x241 1) (at_ 3 1 4 (good 5)) = true ∧ completes (.xmit 0x241 1) (at_ 3 1 4 [.bad]) = true := by
  decide

/-- A state in the middle of sending 0x241 with the backlight on. -/
def mid (q : Seq) (o : Byte) (r : Reply) : State :=
  { at_ 3 1 4 [r] with seq := q, iwr := 0x241, blr := 1, obr := o, status := none }

/-- Each row of R135, each answer. -/
theorem witness_SequencerTransitions :
    bytesOf (mid .hnHi 0 .good).iwr (mid .hnHi 0 .good).blr = [0x4D, 0x49, 0x1D, 0x19] ∧
    (mid .probe 0 .good).seq = .probe ∧ (mid .probe 0 .good).answerAt 0 = .good ∧
    (mid .probe 0 .bad).answerAt 0 = .bad ∧
    LatchesConsistent (mid .hnHi 0 .good) ∧ LatchesConsistent (mid .hnLo 0x4D .good) ∧
    LatchesConsistent (mid .lnHi 0x49 .bad) ∧ LatchesConsistent (mid .lnLo 0x1D .bad) ∧
    (mid .hnLo 0x4D .good).answerAt 0 = .good ∧ (mid .lnLo 0x1D .bad).answerAt 0 = .bad := by decide

theorem witness_XmitIsFiveTransitions :
    (at_ 3 1 4 (good 5)).seq = .idle ∧ (at_ 3 1 4 (good 5)).requests = [] := by decide

theorem witness_LatchesStayConsistent :
    LatchesConsistent (mid .hnHi 0 .good) ∧ steps (mid .hnHi 0 .good) = true ∧
    (next (mid .hnHi 0 .good)).seq = .hnLo ∧ (next (mid .hnHi 0 .good)).obr = 0x4D ∧
    (next (mid .lnHi 0x49 .good)).seq = .lnLo := by decide

/-- Two states that differ in the tracker, the latch and the history, and storages that differ above bit 9. -/
theorem witness_XmitDependsOnlyOnOperandsAndAnswers :
    (at_ 3 1 4 (good 5)).seq = .idle ∧ ({ at_ 0 0 39 (good 6) with exp := 0, trace := sent [] } : State).seq = .idle ∧
    (0x0241 : Storage).setWidth 10 = (0x8241 : Storage).setWidth 10 ∧
    (∀ k, k < 5 → (at_ 3 1 4 (good 5)).answerAt k =
      ({ at_ 0 0 39 (good 6) with exp := 0, trace := sent [] } : State).answerAt k) ∧
    AllGood (at_ 3 1 4 (good 5)) 2 := by decide

theorem witness_BacklightIsInEveryByte :
    completes (.xmit 0x2FF 1) (at_ 3 1 4 (badAfter 3)) = true ∧ AllGood (at_ 3 1 4 (badAfter 3)) 2 ∧
    .write 0xFD .done ∈ (after (.xmit 0x2FF 1) (at_ 3 1 4 (badAfter 3))).trace.drop 0 := by decide

theorem witness_OperationsIssueTheirPlan :
    isOperation (.showstr [0x41]) = true ∧ Accepts (.showstr [0x41]) (at_ 3 1 4 (badAfter 3)) ∧
    isOperation (.xmit 0 0) = true ∧ Accepts (.xmit 0 0) { at_ 3 1 4 [] with handleSet := false } := by decide

theorem witness_AFailedTransactionIsTheLast :
    isOperation .clear = true ∧ completes .clear (at_ 3 1 4 (badAfter 1)) = true ∧
    (after .clear (at_ 3 1 4 (badAfter 1))).status = some .busWriteFailure ∧
    (after .clear (at_ 3 1 4 [.bad])).status = some .busNotReady := by decide

/-- Both clauses of R151, at the ends of their ranges. -/
theorem witness_MoveStoresTheLogicalPosition :
    (at_ 5 1 7 []).seq = .idle ∧
    (0 ≤ (0 : Byte).toInt ∧ (39 : Byte).toInt < 40 ∧ 0 ≤ (0 : Byte).toInt ∧ (1 : Byte).toInt < 2) ∧
    ¬(0 ≤ (-1 : Byte).toInt) ∧ ¬((40 : Byte).toInt < 40) ∧ ¬((2 : Byte).toInt < 2) := by decide

/-- `OFFSET`, `x` and `y` at both ends. -/
theorem witness_MoveTransmitsThePhysicalAddress :
    (at_ 5 1 39 (good 5)).seq = .idle ∧ AllGood (at_ 5 1 39 (good 5)) 5 ∧ (at_ 5 1 39 (good 5)).offset.toNat ≤ 39 ∧
    (39 : Byte).toNat < 40 ∧ (1 : Byte).toNat < 2 ∧
    0x40 = (if (1 : Byte).toNat = 1 then 0x40 else 0) +
      (0x27 - (at_ 5 1 39 (good 5)).offset.toNat + 1 + (39 : Byte).toNat) % 0x28 ∧
    (at_ 5 1 0 (good 5)).offset = 0 ∧
    0x00 = (if (0 : Byte).toNat = 1 then 0x40 else 0) +
      (0x27 - (at_ 5 1 0 (good 5)).offset.toNat + 1 + (0 : Byte).toNat) % 0x28 := by decide

/-- Also for FortyDisplayShiftsReturnTheOffset. -/
theorem witness_DisplayShiftMovesTheOffset :
    (at_ 5 1 39 []).seq = .idle ∧ (at_ 5 1 39 []).offset.toNat ≤ 39 ∧ (at_ 5 1 0 []).offset.toNat ≤ 39 := by decide

/-- Also for CursorShiftsMoveRoundEightyPositions: the four clauses. -/
theorem witness_CursorShiftMovesTheCursor :
    (at_ 39 1 7 []).seq = .idle ∧ (at_ 39 1 7 []).curX.toNat ≤ 39 ∧ (at_ 39 1 7 []).curX.toNat = 39 ∧
    (at_ 38 1 7 []).curX.toNat < 39 ∧ (at_ 0 0 7 []).curX.toNat = 0 ∧ 0 < (at_ 1 0 7 []).curX.toNat := by decide

theorem witness_ShiftChecksItsDirectionAndSendsItsWord :
    (at_ 5 1 7 (good 5)).seq = .idle ∧ 1 < (2 : Byte).toNat ∧ 1 < (255 : Byte).toNat ∧ (0 : Byte).toNat ≤ 1 ∧
    (1 : Byte).toNat ≤ 1 ∧ AllGood (at_ 5 1 7 (good 5)) 5 := by decide

theorem witness_InvalidParameterHasNoSideEffects :
    isOperation (.move 40 0 1) = true ∧ Accepts (.move 40 0 1) (at_ 5 1 7 []) ∧ operandsLegal (.move 40 0 1) = false ∧
    operandsLegal (.movecursor 0 2) = false ∧ Accepts (.movecursor 0 2) (at_ 5 1 7 []) ∧
    operandsLegal (.shift 1 2 1) = false ∧ completes (.shift 1 2 1) (at_ 5 1 7 []) = true := by decide

theorem witness_TrackerIgnoresTheTransport :
    trackerOf (at_ 5 1 7 (good 5)) = trackerOf (at_ 5 1 7 [.bad]) ∧
    completes (.move 39 0 1) (at_ 5 1 7 (good 5)) = true ∧ completes (.move 39 0 1) (at_ 5 1 7 [.bad]) = true := by
  decide

theorem witness_TrackerFrame :
    completes (.move 39 0 1) (at_ 5 1 7 (good 5)) = true ∧ completes (.shift 1 0 1) (at_ 5 1 7 (good 5)) = true ∧
    completes (.shift 0 1 1) (at_ 5 1 7 [.bad]) = true ∧ completes .rddata (at_ 5 1 7 []) = true ∧
    completes (.xmit 1 0) (at_ 5 1 7 (good 5)) = true ∧ completes (.iwWdata 0) (at_ 5 1 7 []) = true ∧
    isBuilder (.iwWdata 0) = true := by decide

theorem witness_FacadeTrackerFrame :
    completes (.init []) (at_ 5 1 7 (good 28)) = true ∧ completes .clear (at_ 5 1 7 (good 5)) = true ∧
    completes (.showchar 0) (at_ 5 1 7 (good 5)) = true ∧ completes (.showstr [0, 1]) (at_ 5 1 7 (good 10)) = true ∧
    completes (.movecursor 0 1) (at_ 5 1 7 (good 5)) = true ∧ completes (.shiftdisplay 0) (at_ 5 1 7 (good 5)) = true
    := by decide

theorem witness_StepKeepsTheTrackerInRange :
    TrackerInRange (at_ 39 1 39 (good 5)) ∧
    steps { at_ 39 1 39 (good 5) with requests := [⟨.cmd, [2, 0, 1, 1]⟩] } = true ∧
    trackerOf (next { at_ 39 1 39 (good 5) with requests := [⟨.cmd, [2, 0, 1, 1]⟩] }) = (0, 0, 39) := by decide

theorem witness_ReadStubsReportSuccess : (at_ 5 1 7 []).seq = .idle := by decide

/-- Also for ShowStringSendsItsCharactersInOrder and ShowStringCompletesForEveryString (two characters). -/
theorem witness_FacadeExpandsIntoCoreOperations :
    (at_ 5 1 7 (good 10)).seq = .idle ∧ (at_ 5 1 7 (good 10)).handleSet = true ∧
    (at_ 5 1 7 (good 10)).cfg.facadeBl = 1 ∧ AllGood (at_ 5 1 7 (good 10)) 10 := by decide

/-- Twenty-eight good answers: eight raw writes and four transmissions. -/
theorem witness_InitSendsItsSequence :
    (at_ 5 1 7 (good 28)).seq = .idle ∧ (at_ 5 1 7 (good 28)).cfg.initRaw.length + 20 = 28 ∧
    AllGood (at_ 5 1 7 (good 28)) 28 := by decide

theorem witness_FacadeBeforeInitIsRefused :
    needsHandle .clear = true ∧ needsHandle (.movecursor 40 0) = true ∧ State.reset.seq = .idle ∧
    State.reset.handleSet = false := by decide

theorem witness_SecondOperationIsRefused :
    isOperation .rddata = true ∧ isOperation (.init []) = true ∧ (mid .probe 0 .good).seq ≠ .idle ∧
    refusedFor .rddata (mid .probe 0 .good) .operationInProgress = true := by decide

theorem witness_OperationFrame :
    completes (.xmit 1 1) (at_ 5 1 7 (badAfter 2)) = true ∧ isOperation (.xmit 1 1) = true ∧
    completes .rdbusy (at_ 5 1 7 []) = true ∧ completes (.iwDdaddr 0x80) (mid .hnLo 0x4D .good) = true ∧
    isOperation (.iwDdaddr 0x80) = false ∧ completes (.ob 0 0 0 0 0) (at_ 5 1 7 []) = true := by decide

theorem witness_ExpFollowsTheTrace :
    steps (mid .hnLo 0x4D .good) = true ∧ (next (mid .hnLo 0x4D .good)).exp = 0x49 ∧
    steps (mid .hnLo 0x4D .bad) = true ∧ (next (mid .hnLo 0x4D .bad)).exp = 0x5A ∧
    completes (.init []) (at_ 5 1 7 (badAfter 3)) = true := by decide

theorem witness_TransportIsAlwaysCalledWithTheFixedArguments :
    steps { at_ 5 1 7 (good 28) with requests := [⟨.cmd, [8, 1]⟩] } = true ∧
    (next { at_ 5 1 7 (good 28) with requests := [⟨.cmd, [8, 1]⟩] }).calls.length = 41 := by decide

theorem witness_OnlyInitWaits : completes (.showstr [1, 2]) (at_ 5 1 7 (good 10)) = true := by decide

/-- Storages with bit 8 clear and all others set, a façade operation, and `INIT`. -/
theorem witness_NoReadWordIsSentByItself :
    (0xFEFF : Storage).getLsbD 8 = false ∧ completes (.xmit 0xFEFF 1) (at_ 5 1 7 (good 5)) = true ∧
    .write 0xFD .done ∈ (after (.xmit 0xFEFF 1) (at_ 5 1 7 (good 5))).trace.drop 0 ∧
    completes .clear (at_ 5 1 7 (good 5)) = true ∧
    .write 0x0C .done ∈ (after .clear (at_ 5 1 7 (good 5))).trace.drop 0 ∧
    completes (.init []) (at_ 5 1 7 (good 28)) = true ∧
    .write 0x2C .done ∈ (after (.init []) (at_ 5 1 7 (good 28))).trace.drop 8 := by decide

theorem witness_ConfigurationNeverChanges :
    steps { at_ 5 1 7 [.bad] with requests := [⟨.cmd, [8, 1]⟩] } = true ∧
    (next { at_ 5 1 7 [.bad] with requests := [⟨.cmd, [8, 1]⟩] }).handle ≠ (at_ 5 1 7 [.bad]).handle := by decide

theorem witness_SequencerRestsBetweenOperations :
    (at_ 5 1 7 (badAfter 4)).seq = .idle ∧
    steps { at_ 5 1 7 (badAfter 4) with requests := [⟨.cmd, [9]⟩] } = true := by decide

/-- The five clauses. -/
theorem witness_StepRunsTheNextRequest :
    (at_ 5 1 7 []).seq = .idle ∧ decode ⟨.cmd, [4]⟩ = .ok .rdbusy ∧ decode ⟨.cmd, [5]⟩ = .error (.noOperation 5) ∧
    (at_ 5 1 7 []).requests = [] ∧ (mid .lnLo 0x1D .good).seq ≠ .idle ∧
    decodeTableWord 16 0x001 = some .iwClear := by decide

theorem witness_BusPrimitives :
    (at_ 5 1 7 (good 1)).answerAt 0 = .good ∧ (busWrite 0x4D (at_ 5 1 7 (good 1))).1 = .done ∧
    (busWrite 0x4D (at_ 5 1 7 [.bad])).1 = .fail ∧ (busProbe (at_ 5 1 7 [.bad])).1 = .notReady := by decide

end Sys2Proof.Tests
end

section
/-! What one step adds to the records of transactions and calls, and which registers of the port it keeps: one
relation, `ExtendsLogs`, that every operation but `INIT` meets from its own state and `INIT` from the state in which
the handle is already stored (R172). -/

namespace Sys2Proof.Machine

/-- `t` keeps the configuration and the handle of `s`, and extends `TRACE` and the record of calls by transactions
and calls that match: beside the delays, one call for each event, made as R53 and R54 say. -/
structure ExtendsLogs (s t : State) : Prop where
  cfg : t.cfg = s.cfg
  handle : t.handle = s.handle
  handleSet : t.handleSet = s.handleSet
  logs : ∃ evs cs, t.trace = s.trace ++ evs ∧ t.calls = s.calls ++ cs ∧
    cs.filter (fun c => !isDelay c) = evs.map (callOf s)

/-! ### The relation and the operations of the state -/

theorem ExtendsLogs.refl (s : State) : ExtendsLogs s s where
  cfg := rfl
  handle := rfl
  handleSet := rfl
  logs := ⟨[], [], by simp, by simp, rfl⟩

theorem Issues.extendsLogs {ts : List Txn} {s t : State} (h : Issues ts s t) : ExtendsLogs s t where
  cfg := h.cfg
  handle := h.handle
  handleSet := h.handleSet
  logs := let ⟨cs, hcalls, hmatch⟩ := h.calls; ⟨_, cs, h.trace, hcalls, hmatch⟩

theorem returnValue_extendsLogs (v : Value) (s : State) : ExtendsLogs s (returnValue v s) :=
  { ExtendsLogs.refl s with }

theorem raise_extendsLogs (st : Status) (s : State) : ExtendsLogs s (raise st s) :=
  { ExtendsLogs.refl s with }

theorem stubRead_extendsLogs (s : State) : ExtendsLogs s (stubRead s) :=
  { ExtendsLogs.refl s with }

theorem transmit_extendsLogs (iw : Storage) (bl : Bit) (s : State) : ExtendsLogs s (transmit iw bl s) :=
  (transmit_issues iw bl s).extendsLogs

/-- A tracker update changes the tracker registers only (R153 to R156). -/
theorem shiftTracker_eq (mode : Bit) (dir : Byte) (s : State) :
    ∃ x y o, shiftTracker mode dir s = { s with curX := x, curY := y, offset := o } := by
  unfold shiftTracker cursorRight cursorLeft
  split_ifs <;> exact ⟨_, _, _, rfl⟩

/-- What is transmitted after a tracker update counts from the state before it. -/
theorem ExtendsLogs.of_tracker {s t : State} {x : BitVec 6} {y : BitVec 1} {o : BitVec 6}
    (h : ExtendsLogs { s with curX := x, curY := y, offset := o } t) : ExtendsLogs s t :=
  { h with }

theorem moveTo_extendsLogs (x y : Byte) (bl : Bit) (s : State) : ExtendsLogs s (moveTo x y bl s) := by
  unfold moveTo
  split
  · exact (transmit_extendsLogs ..).of_tracker
  · exact raise_extendsLogs ..

theorem shiftBy_extendsLogs (mode : Bit) (dir : Byte) (bl : Bit) (s : State) :
    ExtendsLogs s (shiftBy mode dir bl s) := by
  unfold shiftBy
  split
  · obtain ⟨x, y, o, h⟩ := shiftTracker_eq mode dir s
    rw [h]
    exact (transmit_extendsLogs ..).of_tracker
  · exact raise_extendsLogs ..

/-- `INIT` stores the handle first, so everything it does is done through the new handle (R172). -/
theorem initialiseDevice_extendsLogs (h : Handle) (s : State) :
    ExtendsLogs { s with handle := h, handleSet := true } (initialiseDevice h s) :=
  ((rawWrites_issues ..).after_delay.ifOk (timedWords_issues ..)).extendsLogs

theorem seqAdvance_extendsLogs {s : State} (h : s.seq ≠ .idle) : ExtendsLogs s (seqAdvance s) := by
  obtain ⟨e, q, o, st, heq, -, -⟩ := seqAdvance_spec h
  rw [heq]
  exact ⟨rfl, rfl, rfl, [e], [callOf s e], rfl, rfl, callOf_isDelay s [e]⟩

/-! ### Operations -/

/-- The builder functions and `OB` return a value and do nothing else (R84, R110). -/
theorem exec_eq_returnValue {i : Instr} (h : isOperation i = false) (s : State) :
    ∃ v, exec i s = .next (returnValue v s) := by
  cases i with
  | xmit | move | shift | rddata | rdbusy | init | clear | movecursor | showchar | showstr | shiftdisplay => cases h
  | _ => exact ⟨_, rfl⟩

theorem whenIdle_extendsLogs {op : State → State} {s t : State} (hop : ExtendsLogs s (op s))
    (h : whenIdle s op = .next t) : ExtendsLogs s t := by
  obtain ⟨-, rfl⟩ := whenIdle_next_iff.mp h
  exact hop

theorem whenInitialised_extendsLogs {op : State → State} {s t : State} (hop : ExtendsLogs s (op s))
    (h : whenInitialised s op = .next t) : ExtendsLogs s t := by
  obtain ⟨-, -, rfl⟩ := whenInitialised_next_iff.mp h
  exact hop

/-- Every operation but `INIT` works through the handle it finds. -/
theorem exec_extendsLogs {i : Instr} {s t : State} (hi : ∀ h, i ≠ .init h) (h : exec i s = .next t) :
    ExtendsLogs s t := by
  cases hop : isOperation i
  case false =>
    obtain ⟨v, hv⟩ := exec_eq_returnValue hop s
    cases hv.symm.trans h
    exact returnValue_extendsLogs v s
  case true =>
    cases i with
    | xmit iw bl => exact whenIdle_extendsLogs (transmit_extendsLogs ..) h
    | move x y bl => exact whenIdle_extendsLogs (moveTo_extendsLogs ..) h
    | shift mode dir bl => exact whenIdle_extendsLogs (shiftBy_extendsLogs ..) h
    | rddata | rdbusy => exact whenIdle_extendsLogs (stubRead_extendsLogs s) h
    | init hd => exact absurd rfl (hi hd)
    | clear | showchar c => exact whenInitialised_extendsLogs (transmit_extendsLogs ..) h
    | movecursor x y => exact whenInitialised_extendsLogs (moveTo_extendsLogs ..) h
    | showstr cs => exact whenInitialised_extendsLogs (sendString_issues ..).extendsLogs h
    | shiftdisplay right => exact whenInitialised_extendsLogs (shiftBy_extendsLogs ..) h
    | _ => cases hop

theorem execInit_extendsLogs {hd : Handle} {s t : State} (h : exec (.init hd) s = .next t) :
    ExtendsLogs { s with handle := hd, handleSet := true } t := by
  obtain ⟨-, rfl⟩ := whenIdle_next_iff.mp h
  exact initialiseDevice_extendsLogs hd s

/-! ### Steps -/

/-- What the port takes from the list of requests does not count for the logs (log 3). -/
theorem ExtendsLogs.of_requests {s t : State} {rest : List Request}
    (h : ExtendsLogs { s with requests := rest } t) : ExtendsLogs s t :=
  { h with }

/-- The step runs the `INIT` at the head of the requests, from a resting sequencer, and works through its operand
(R172; log 3, log 9). -/
def StepRunsInit (s t : State) (hd : Handle) : Prop :=
  s.seq = .idle ∧ ∃ r rest, s.requests = r :: rest ∧ decode r = .ok (.init hd) ∧
    exec (.init hd) { s with requests := rest } = .next t ∧
    ExtendsLogs { s with handle := hd, handleSet := true } t

/-- Every step works through the handle it finds, or it is an `INIT` and works through the handle it stores. -/
theorem step_extendsLogs_or_init {s t : State} (h : step s = .next t) :
    ExtendsLogs s t ∨ ∃ hd, StepRunsInit s t hd := by
  unfold step at h
  split at h
  next hidle =>
    split at h
    next => cases h; exact .inl (.refl s)
    next r rest hreq =>
      split at h
      next i hdec =>
        by_cases hi : ∃ hd, i = .init hd
        · obtain ⟨hd, rfl⟩ := hi
          exact .inr ⟨hd, hidle, r, rest, hreq, hdec, h, { execInit_extendsLogs h with }⟩
        · exact .inl (exec_extendsLogs (not_exists.mp hi) h).of_requests
      next => cases h
  next hbusy => cases h; exact .inl (seqAdvance_extendsLogs hbusy)

/-! ### The calls -/

/-- `BUS_ADDR` is `BUS_ADDR7` shifted left once, bit 0 clear (R53). -/
theorem busAddr_toNat (p : Config.Params) : p.busAddr.toNat = 2 * p.busAddr7.toNat := by
  rw [Config.Params.busAddr, BitVec.toNat_append, BitVec.toNat_ofNat, Nat.zero_mod, Nat.or_zero, Nat.shiftLeft_eq,
    pow_one, Nat.mul_comm]

theorem callAsFixed_callOf (s : State) (e : BusEvent) : CallAsFixed s.cfg s.handle (callOf s e) := by
  cases e <;> exact ⟨rfl, rfl, rfl⟩

theorem callAsFixed_of_isDelay {p : Config.Params} {hd : Handle} {c : ServiceCall} (h : isDelay c = true) :
    CallAsFixed p hd c := by
  cases c with
  | delay ms => trivial
  | probe | write => cases h

/-- Calls that are delays or answer to events carry the fixed arguments. -/
theorem callAsFixed_of_filter_eq {s : State} {evs : List BusEvent} {cs : List ServiceCall}
    (h : cs.filter (fun c => !isDelay c) = evs.map (callOf s)) : ∀ c ∈ cs, CallAsFixed s.cfg s.handle c := by
  intro c hc
  cases hd : isDelay c
  case true => exact callAsFixed_of_isDelay hd
  case false =>
    have hmem : c ∈ evs.map (callOf s) := by
      rw [← h]; exact List.mem_filter.mpr ⟨hc, by simp [hd]⟩
    obtain ⟨e, -, rfl⟩ := List.mem_map.mp hmem
    exact callAsFixed_callOf s e

/-- The calls of a run through one handle carry that handle, which is the one it leaves. -/
theorem ExtendsLogs.calls_asFixed {s t : State} (h : ExtendsLogs s t) :
    ∃ evs cs, t.trace = s.trace ++ evs ∧ t.calls = s.calls ++ cs ∧
      (∀ c ∈ cs, CallAsFixed s.cfg t.handle c) ∧ cs.filter (fun c => !isDelay c) = evs.map (callOf t) := by
  obtain ⟨evs, cs, htrace, hcalls, hmatch⟩ := h.logs
  refine ⟨evs, cs, htrace, hcalls, ?_, ?_⟩
  · rw [h.handle]
    exact callAsFixed_of_filter_eq hmatch
  · rw [callOf_congr h.handle h.cfg]
    exact hmatch

/-! ### The statements -/

/-- Settles O46: each step is a run through one handle, the one it finds or the one its `INIT` stores. -/
theorem transportIsAlwaysCalledWithTheFixedArguments :
    Obligations.TransportIsAlwaysCalledWithTheFixedArguments := by
  refine ⟨busAddr_toNat, fun s t h => ?_⟩
  obtain hkept | ⟨hd, -, r, rest, -, -, -, hinit⟩ := step_extendsLogs_or_init h
  · exact hkept.calls_asFixed
  · exact hinit.calls_asFixed

/-- Settles O49: a step that is not an `INIT` keeps the handle, and no step writes the configuration. -/
theorem configurationNeverChanges : Obligations.ConfigurationNeverChanges := by
  refine ⟨fun s t h => ?_, fun s t h hchanged => ?_⟩
  · obtain hkept | ⟨hd, -, r, rest, -, -, -, hinit⟩ := step_extendsLogs_or_init h
    · exact hkept.cfg
    · exact hinit.cfg
  · obtain hkept | ⟨hd, hidle, r, rest, hreq, hdec, hexec, hinit⟩ := step_extendsLogs_or_init h
    · exact absurd ⟨hkept.handle, hkept.handleSet⟩ (not_and_or.mpr hchanged)
    · exact ⟨hidle, r, rest, hd, hreq, hdec, hexec, hinit.handle, hinit.handleSet⟩

end Sys2Proof.Machine
end

section
/-! The address words of the builder (R117, R118): each is its leading bits followed by the low bits of the operand,
so the operand's bits above the mask do not count (R87). With them, what `XMIT` sends when every answer is good. -/

namespace Sys2Proof.Machine

/-! ### A transmission answered well throughout -/

/-- Writes that are all answered `DONE` are issued to the last one. -/
theorem issue_writes_of_good {ans : Nat → Config.Reply} {bs : List Byte} {k : Nat}
    (h : ∀ j < bs.length, ans (k + j) = .good) :
    issue ans k (bs.map .write) = bs.map (.write · .done) ∧ issueStatus ans k (bs.map .write) = .ok := by
  induction bs generalizing k with
  | nil => exact ⟨rfl, rfl⟩
  | cons b bs ih =>
    have hk : ans k = .good := h 0 (Nat.zero_lt_succ _)
    obtain ⟨hissue, hstatus⟩ := ih (k := k + 1) fun j hj => by
      rw [Nat.add_assoc, Nat.add_comm 1]
      exact h (j + 1) (Nat.succ_lt_succ hj)
    simp only [List.map_cons, issue, issueStatus, hk, hissue, hstatus, and_self]

/-- Five good answers carry a transmission to its end (R135). -/
theorem issue_xmitPlan_of_allGood {s : State} (h : AllGood s 5) (w : Word) (bl : Bit) :
    issue s.answerAt 0 (xmitPlan w bl) = goodEvents (bytesOf w bl) ∧
      issueStatus s.answerAt 0 (xmitPlan w bl) = .ok := by
  have hprobe : s.answerAt 0 = .good := h 0 (by decide)
  obtain ⟨hissue, hstatus⟩ := issue_writes_of_good (ans := s.answerAt) (bs := bytesOf w bl) (k := 1) fun j hj => by
    have hlen : (bytesOf w bl).length = 4 := rfl
    exact h (1 + j) (by omega)
  simp only [xmitPlan, issue, issueStatus, hprobe, hissue, hstatus, goodEvents, and_self]

/-- `XMIT` sends the four bytes of R134 for the word in its storage. -/
theorem sendsBytes_of_bytesOf_eq {w : Storage} {bl : Bit} {bs : List Byte} (h : bytesOf (wordOf w) bl = bs) :
    SendsBytes w bl bs := by
  intro s hidle hgood
  obtain ⟨hissue, hstatus⟩ := issue_xmitPlan_of_allGood hgood (wordOf w) bl
  rw [h] at hissue
  have hsent := transmit_issues w bl s
  exact ⟨transmit w bl s, whenIdle_of_idle _ hidle, by rw [hsent.trace, hissue], by rw [hsent.status, hstatus],
    by rw [hsent.exp, hissue]⟩

/-! ### The address words -/

/-- The mask of R117 keeps the low 6 bits, below the bit that marks the function. -/
theorem storageOf_wordCgaddr (a : Byte) : storageOf (wordCgaddr a) = 0b0000000001#10 ++ a.extractLsb' 0 6 := by
  revert a; decide +kernel

/-- The mask of R118 keeps the low 7 bits, below the bit that marks the function. -/
theorem storageOf_wordDdaddr (a : Byte) : storageOf (wordDdaddr a) = 0b000000001#9 ++ a.extractLsb' 0 7 := by
  revert a; decide +kernel

theorem exec_iwCgaddr (a : Byte) (s : State) :
    exec (.iwCgaddr a) s = .next { s with result := some (.word (0b0000000001#10 ++ a.extractLsb' 0 6)) } := by
  rw [← storageOf_wordCgaddr]; rfl

theorem exec_iwDdaddr (a : Byte) (s : State) :
    exec (.iwDdaddr a) s = .next { s with result := some (.word (0b000000001#9 ++ a.extractLsb' 0 7)) } := by
  rw [← storageOf_wordDdaddr]; rfl

/-- Bits 7:6 of the operand of `IW.CGADDR` are dropped (R87). -/
theorem exec_iwCgaddr_congr {a b : Byte} (h : a.extractLsb' 0 6 = b.extractLsb' 0 6) (s : State) :
    exec (.iwCgaddr a) s = exec (.iwCgaddr b) s := by
  rw [exec_iwCgaddr, exec_iwCgaddr, h]

/-- Bit 7 of the operand of `IW.DDADDR` is dropped (R87). -/
theorem exec_iwDdaddr_congr {a b : Byte} (h : a.extractLsb' 0 7 = b.extractLsb' 0 7) (s : State) :
    exec (.iwDdaddr a) s = exec (.iwDdaddr b) s := by
  rw [exec_iwDdaddr, exec_iwDdaddr, h]

/-- Settles O9: the words are computed by their bit fields, so the examples follow from the general clause. -/
theorem builderAddressWords : Obligations.BuilderAddressWords := by
  refine ⟨fun s a => ⟨exec_iwCgaddr a s, exec_iwDdaddr a s⟩, fun s => ⟨?_, ?_, ?_, ?_⟩, ?_, ?_⟩
  · exact exec_iwCgaddr_congr (by decide) s
  · exact exec_iwCgaddr 0xFF s
  · exact exec_iwDdaddr_congr (by decide) s
  · exact exec_iwDdaddr 0xFF s
  · exact sendsBytes_of_bytesOf_eq (by decide)
  · exact sendsBytes_of_bytesOf_eq (by decide)

end Sys2Proof.Machine
end

section
/-! The command words of the builder (R111 to R116), its data word (R119), and what all its functions share (R110):
each returns one word, whatever the state, whose bit 9 is set exactly by the two data functions. -/

namespace Sys2Proof.Machine

/-! ### The words as their patterns -/

theorem storageOf_wordEntry (inc sh : Bit) : storageOf (wordEntry inc sh) = 0b00000000000001#14 ++ inc ++ sh := by
  revert inc sh; decide

theorem storageOf_wordDisp (d c b : Bit) : storageOf (wordDisp d c b) = 0b0000000000001#13 ++ d ++ c ++ b := by
  revert d c b; decide

theorem storageOf_wordShift (sd r : Bit) : storageOf (wordShift sd r) = 0b000000000001#12 ++ sd ++ r ++ 0b00#2 := by
  revert sd r; decide

theorem storageOf_wordFunc (n f : Bit) : storageOf (wordFunc n f) = 0b000000000010#12 ++ n ++ f ++ 0b00#2 := by
  revert n f; decide

/-- No bit of the data byte is dropped: it lies below the bit that selects the data register (R119). -/
theorem storageOf_wordWdata (d : Byte) : storageOf (wordWdata d) = 0b00000010#8 ++ d := by
  calc storageOf (wordWdata d)
    _ = 0x0200 ||| d.setWidth 16 := by simp [storageOf, wordWdata, BitVec.setWidth_or]
    _ = 0b00000010#8 ++ d := rfl

theorem exec_iwEntry (inc sh : Bit) (s : State) :
    exec (.iwEntry inc sh) s = .next { s with result := some (.word (0b00000000000001#14 ++ inc ++ sh)) } := by
  rw [← storageOf_wordEntry]; rfl

theorem exec_iwDisp (d c b : Bit) (s : State) :
    exec (.iwDisp d c b) s = .next { s with result := some (.word (0b0000000000001#13 ++ d ++ c ++ b)) } := by
  rw [← storageOf_wordDisp]; rfl

theorem exec_iwShift (sd r : Bit) (s : State) :
    exec (.iwShift sd r) s = .next { s with result := some (.word (0b000000000001#12 ++ sd ++ r ++ 0b00#2)) } := by
  rw [← storageOf_wordShift]; rfl

theorem exec_iwFunc (n f : Bit) (s : State) :
    exec (.iwFunc n f) s = .next { s with result := some (.word (0b000000000010#12 ++ n ++ f ++ 0b00#2)) } := by
  rw [← storageOf_wordFunc]; rfl

theorem exec_iwWdata (d : Byte) (s : State) :
    exec (.iwWdata d) s = .next { s with result := some (.word (0b00000010#8 ++ d)) } := by
  rw [← storageOf_wordWdata]; rfl

/-! ### Bit 9, the register select (R121) -/

/-- An operand of one bit sets no bit above its own (R86). -/
@[simp] theorem getElem_fieldAt_of_lt {b : Bit} {k i : Nat} (hi : i < 10) (h : k < i) : (fieldAt b k)[i] = false := by
  have hb : b.getLsbD (i - k) = false := BitVec.getLsbD_of_ge b (i - k) (by omega)
  simp [fieldAt, hb]

@[simp] theorem getElem_wordEntry_nine (inc sh : Bit) : (wordEntry inc sh)[9] = false := by
  simp [wordEntry]

@[simp] theorem getElem_wordDisp_nine (d c b : Bit) : (wordDisp d c b)[9] = false := by
  simp [wordDisp]

@[simp] theorem getElem_wordShift_nine (sd r : Bit) : (wordShift sd r)[9] = false := by
  simp [wordShift]

@[simp] theorem getElem_wordFunc_nine (n f : Bit) : (wordFunc n f)[9] = false := by
  simp [wordFunc]

@[simp] theorem getElem_wordCgaddr_nine (a : Byte) : (wordCgaddr a)[9] = false := by
  simp [wordCgaddr]

@[simp] theorem getElem_wordDdaddr_nine (a : Byte) : (wordDdaddr a)[9] = false := by
  simp [wordDdaddr]

@[simp] theorem getElem_wordWdata_nine (d : Byte) : (wordWdata d)[9] = true := by
  simp [wordWdata]

/-! ### The statements -/

/-- Settles O12: each function returns its word in every state, and bit 9 is read off the eleven words. -/
theorem buildersArePureAndTotal : Obligations.BuildersArePureAndTotal := by
  intro i hi
  cases i with
  | iwClear => exact ⟨wordClear, fun _ => rfl, iff_of_false (by decide) (by simp)⟩
  | iwHome => exact ⟨wordHome, fun _ => rfl, iff_of_false (by decide) (by simp)⟩
  | iwEntry inc sh => exact ⟨wordEntry inc sh, fun _ => rfl, iff_of_false (by simp) (by simp)⟩
  | iwDisp d c b => exact ⟨wordDisp d c b, fun _ => rfl, iff_of_false (by simp) (by simp)⟩
  | iwShift sd r => exact ⟨wordShift sd r, fun _ => rfl, iff_of_false (by simp) (by simp)⟩
  | iwFunc n f => exact ⟨wordFunc n f, fun _ => rfl, iff_of_false (by simp) (by simp)⟩
  | iwCgaddr a => exact ⟨wordCgaddr a, fun _ => rfl, iff_of_false (by simp) (by simp)⟩
  | iwDdaddr a => exact ⟨wordDdaddr a, fun _ => rfl, iff_of_false (by simp) (by simp)⟩
  | iwWdata d => exact ⟨wordWdata d, fun _ => rfl, iff_of_true (by simp) (.inl ⟨d, rfl⟩)⟩
  | iwRbusy => exact ⟨wordRbusy, fun _ => rfl, iff_of_false (by decide) (by simp)⟩
  | iwRdata => exact ⟨wordRdata, fun _ => rfl, iff_of_true (by decide) (.inr rfl)⟩
  | _ => cases hi

/-- Settles O8: the patterns are the words' bit fields, and the example bytes are R134's for the example words. -/
theorem builderCommandWords : Obligations.BuilderCommandWords := by
  refine ⟨fun s inc sh d c b sd r n f => ⟨rfl, rfl, exec_iwEntry inc sh s, exec_iwDisp d c b s, exec_iwShift sd r s,
    exec_iwFunc n f s⟩, ?_, ?_, ?_, ?_, ?_, ?_⟩ <;>
    exact sendsBytes_of_bytesOf_eq (by decide)

/-- Settles O10: `XMIT` of any word issues transactions only, so it moves no cursor. -/
theorem writeDataWord : Obligations.WriteDataWord := by
  refine ⟨fun s d => exec_iwWdata d s, fun s t d bl h => ?_, sendsBytes_of_bytesOf_eq (by decide)⟩
  obtain ⟨-, rfl⟩ := whenIdle_next_iff.mp h
  have hsent := transmit_issues (0b00000010#8 ++ d) bl s
  exact ⟨hsent.curX, hsent.curY⟩

end Sys2Proof.Machine
end

section
/-! The ways a transmission ends (R135, R138): with its plan issued up to the first write answered `FAIL`, or to its
end; and the enable line in its four bytes (R131, R132). -/

namespace Sys2Proof.Machine

/-! ### The enable line -/

/-- The enable bit of an output byte is the one it was composed with (R83, R84). -/
theorem getLsbD_outByte_enable (w : Word) (bl : Bit) (h : Half) (en : Bit) :
    (outByte w bl h en).getLsbD 2 = en.getLsbD 0 := by
  rw [outByte, composeByte_eq_append]
  simp only [BitVec.getLsbD_append]
  rfl

/-- Enable is 1 in the first and third byte of a transmission and 0 in the second and fourth (R131, R132). -/
theorem enable_of_bytesOf_eq {w : Word} {bl : Bit} {b2 b3 b4 b5 : Byte} (h : bytesOf w bl = [b2, b3, b4, b5]) :
    b2.getLsbD 2 = true ∧ b3.getLsbD 2 = false ∧ b4.getLsbD 2 = true ∧ b5.getLsbD 2 = false := by
  rw [bytesOf_eq_outByte] at h
  cases h
  simp only [getLsbD_outByte_enable]
  decide

/-! ### Where a transmission ends -/

/-- `XMIT` ends as the issue of its plan says (R134, R138). -/
theorem xmit_endsWith {s : State} (hidle : s.seq = .idle) (iw : Storage) (bl : Bit) :
    EndsWith (.xmit iw bl) s (issue s.answerAt 0 (xmitPlan (wordOf iw) bl))
      (issueStatus s.answerAt 0 (xmitPlan (wordOf iw) bl))
      (latchOf (issue s.answerAt 0 (xmitPlan (wordOf iw) bl)) s.exp) :=
  have h := transmit_issues iw bl s
  ⟨transmit iw bl s, whenIdle_of_idle _ hidle, h.trace, h.status, h.exp⟩

/-- Writes answered `DONE` up to one answered `FAIL` are issued up to and with that one (R137, R193). -/
theorem issue_writes_of_bad {ans : Nat → Config.Reply} {as bs : List Byte} {b : Byte} {k : Nat}
    (hgood : ∀ j < as.length, ans (k + j) = .good) (hbad : ans (k + as.length) = .bad) :
    issue ans k ((as ++ b :: bs).map .write) = as.map (.write · .done) ++ [.write b .fail] ∧
      issueStatus ans k ((as ++ b :: bs).map .write) = .busWriteFailure := by
  obtain ⟨hissue, hstatus⟩ := issue_writes_of_good hgood
  rw [List.map_append, issue_append, issueStatus_append, if_pos hstatus, if_pos hstatus, hissue, List.length_map]
  simp [issue, issueStatus, hbad]

/-- A transmission whose first bad answer is to the write of `b`, after the writes of `as` (R138). -/
theorem xmit_endsWith_of_bad_write {s : State} {iw : Storage} {bl : Bit} {as bs : List Byte} {b : Byte}
    (hidle : s.seq = .idle) (hbytes : bytesOf (wordOf iw) bl = as ++ b :: bs) (hgood : AllGood s (as.length + 1))
    (hbad : s.answerAt (as.length + 1) = .bad) :
    EndsWith (.xmit iw bl) s (goodEvents as ++ [.write b .fail]) .busWriteFailure
      (latchOf (goodEvents as ++ [.write b .fail]) s.exp) := by
  have hprobe : s.answerAt 0 = .good := hgood 0 (Nat.zero_lt_succ _)
  obtain ⟨hissue, hstatus⟩ := issue_writes_of_bad (ans := s.answerAt) (as := as) (b := b) (bs := bs) (k := 1)
    (fun j hj => hgood (1 + j) (by omega)) (by rwa [Nat.add_comm])
  have h := xmit_endsWith hidle iw bl
  simp only [xmitPlan, hbytes, issue, issueStatus, hprobe, hissue, hstatus] at h
  exact h

/-- A transmission whose probe is answered `NOT_READY` (R136). -/
theorem xmit_endsWith_of_bad_probe {s : State} (hidle : s.seq = .idle) (hbad : s.answerAt 0 = .bad) (iw : Storage)
    (bl : Bit) : EndsWith (.xmit iw bl) s [.probe .notReady] .busNotReady s.exp := by
  have h := xmit_endsWith hidle iw bl
  simp only [xmitPlan, issue, issueStatus, hbad] at h
  exact h

/-- Settles O15: one row for each transaction whose answer may be the first bad one, and one for none. -/
theorem xmitHasSixOutcomes : Obligations.XmitHasSixOutcomes := by
  intro s iw bl b2 b3 b4 b5 hidle hbytes
  have henable := enable_of_bytesOf_eq hbytes
  rw [← wordOf_eq_setWidth] at hbytes
  refine ⟨henable, ?_, ?_, ?_, ?_, ?_, ?_⟩
  · exact fun hbad => xmit_endsWith_of_bad_probe hidle hbad iw bl
  · exact xmit_endsWith_of_bad_write (as := []) hidle hbytes
  · exact xmit_endsWith_of_bad_write (as := [b2]) hidle hbytes
  · exact xmit_endsWith_of_bad_write (as := [b2, b3]) hidle hbytes
  · exact xmit_endsWith_of_bad_write (as := [b2, b3, b4]) hidle hbytes
  · exact sendsBytes_of_bytesOf_eq hbytes s hidle

end Sys2Proof.Machine
end

section
/-! The backlight line in the bytes of a transmission (R133). -/

namespace Sys2Proof.Machine

/-- The backlight bit of an output byte is the one it was composed with (R83, R84). -/
theorem extractLsb'_outByte_backlight (w : Word) (bl : Bit) (h : Half) (en : Bit) :
    (outByte w bl h en).extractLsb' 3 1 = bl := by
  rw [outByte, composeByte_eq_append]
  ext i hi
  obtain rfl : i = 0 := by omega
  rw [BitVec.getElem_extractLsb']
  simp only [BitVec.getLsbD_append]
  rfl

theorem backlight_of_mem_bytesOf {w : Word} {bl : Bit} {b : Byte} (h : b ∈ bytesOf w bl) : b.extractLsb' 3 1 = bl := by
  rw [bytesOf_eq_outByte] at h
  simp only [List.mem_cons, List.not_mem_nil, or_false] at h
  obtain rfl | rfl | rfl | rfl := h <;> exact extractLsb'_outByte_backlight ..

/-- Nothing is written that is not in the plan (R137). -/
theorem write_mem_of_write_mem_issue {ans : Nat → Config.Reply} {ts : List Txn} {k : Nat} {b : Byte}
    {a : WriteAnswer} (h : .write b a ∈ issue ans k ts) : .write b ∈ ts := by
  induction ts generalizing k with
  | nil => cases h
  | cons t ts ih =>
    cases t with
    | probe =>
      cases hk : ans k <;> simp only [issue, hk] at h
      case bad => simp at h
      case good => exact List.mem_cons_of_mem _ (ih (by simpa using h))
    | write c =>
      cases hk : ans k <;> simp only [issue, hk] at h
      case bad => simp_all
      case good =>
        obtain hhead | htail := List.mem_cons.mp h
        · simp_all
        · exact List.mem_cons_of_mem _ (ih htail)

theorem write_mem_xmitPlan {w : Word} {bl : Bit} {b : Byte} : .write b ∈ xmitPlan w bl ↔ b ∈ bytesOf w bl := by
  simp [xmitPlan]

/-- The latch holds a byte with a property that its old content and all the bytes written have (R32). -/
theorem latchOf_induction {P : Byte → Prop} {evs : List BusEvent} {e : Byte} (he : P e)
    (hevs : ∀ b a, .write b a ∈ evs → P b) : P (latchOf evs e) := by
  induction evs generalizing e with
  | nil => exact he
  | cons ev evs ih =>
    have hrest : ∀ b a, .write b a ∈ evs → P b := fun b a h => hevs b a (List.mem_cons_of_mem _ h)
    cases ev with
    | probe a => exact ih he hrest
    | write b a => cases a with
      | done => exact ih (hevs b .done List.mem_cons_self) hrest
      | fail => exact ih he hrest

/-- Once a write has been answered `DONE`, the old content of the latch does not count (R32). -/
theorem latchOf_of_done_mem {P : Byte → Prop} {evs : List BusEvent} {c : Byte} (hdone : .write c .done ∈ evs)
    (hevs : ∀ b a, .write b a ∈ evs → P b) (e : Byte) : P (latchOf evs e) := by
  obtain ⟨before, after, rfl⟩ := List.append_of_mem hdone
  rw [latchOf_append]
  exact latchOf_induction (evs := after) (hevs c .done hdone) fun b a h => hevs b a (by simp [h])

/-- Two good answers are those to the probe and to the first write of a transmission (R135). -/
theorem exists_done_mem_of_allGood {s : State} (h : AllGood s 2) (w : Word) (bl : Bit) :
    ∃ b, .write b .done ∈ issue s.answerAt 0 (xmitPlan w bl) := by
  have hprobe : s.answerAt 0 = .good := h 0 (by decide)
  have hwrite : s.answerAt 1 = .good := h 1 (by decide)
  simp only [xmitPlan, bytesOf, List.map_cons, issue, hprobe, hwrite]
  exact ⟨_, List.mem_cons_of_mem _ List.mem_cons_self⟩

/-- Settles O21: all bytes of the plan carry the flag, so those written do, and the latch holds one of them as soon as
a write has been answered `DONE`. -/
theorem backlightIsInEveryByte : Obligations.BacklightIsInEveryByte := by
  intro s t iw bl h
  obtain ⟨-, rfl⟩ := whenIdle_next_iff.mp h
  have hsent := transmit_issues iw bl s
  have hflag : ∀ b a, .write b a ∈ issue s.answerAt 0 (xmitPlan (wordOf iw) bl) → b.extractLsb' 3 1 = bl :=
    fun b a hmem => backlight_of_mem_bytesOf (write_mem_xmitPlan.mp (write_mem_of_write_mem_issue hmem))
  refine ⟨?_, fun hgood => ?_⟩
  · rw [hsent.trace, List.drop_left]
    exact hflag
  · obtain ⟨b, hdone⟩ := exists_done_mem_of_allGood hgood (wordOf iw) bl
    rw [hsent.exp]
    exact latchOf_of_done_mem hdone hflag s.exp

end Sys2Proof.Machine
end

section
/-! Every operation against its plan (R60, R134, R151, R152, R157, R172, R180): the words the meanings transmit are
those of the spec's tables, and what an operation leaves for the host to see is what issuing its plan leaves. -/

namespace Sys2Proof.Machine

/-! ### What the host sees of an operation that ended -/

/-- `t` is `s` after the events `evs`, ended with the status `st`: what `TRACE`, `STATUS`, `EXP` and `SEQ` hold. -/
def Reports (evs : List BusEvent) (st : Status) (s t : State) : Prop :=
  t.trace = s.trace ++ evs ∧ t.status = some st ∧ t.exp = latchOf evs s.exp ∧ t.seq = .idle

/-- `t` reports what the spec's tables say of `i` in `s`. -/
def ReportsPlan (i : Instr) (s t : State) : Prop := Reports (expectedEvents i s) (expectedStatus i s) s t

theorem Issues.reports {ts : List Txn} {s t : State} (h : Issues ts s t) (hidle : s.seq = .idle) :
    Reports (issue s.answerAt 0 ts) (issueStatus s.answerAt 0 ts) s t :=
  ⟨h.trace, h.status, h.exp, h.seq hidle⟩

theorem reportsPlan_of_legal {i : Instr} {s t : State} (hlegal : operandsLegal i = true)
    (h : Reports (issue s.answerAt 0 (plan i s)) (issueStatus s.answerAt 0 (plan i s)) s t) : ReportsPlan i s t := by
  rw [ReportsPlan, expectedEvents, expectedStatus, if_pos hlegal, if_pos hlegal]
  exact h

/-- Refused operands: nothing is issued and the operation ends with `InvalidParameter` (R194, R196). -/
theorem reportsPlan_raise_of_illegal {i : Instr} (s : State) (hlegal : ¬operandsLegal i = true) :
    ReportsPlan i s (raise .invalidParameter s) := by
  rw [ReportsPlan, expectedEvents, expectedStatus, if_neg hlegal, if_neg hlegal]
  exact ⟨(List.append_nil _).symm, rfl, rfl, rfl⟩

/-- One transmission of a word built by the machine. -/
theorem transmit_storageOf_reports {s : State} (hidle : s.seq = .idle) (w : Word) (bl : Bit) :
    Reports (issue s.answerAt 0 (xmitPlan w bl)) (issueStatus s.answerAt 0 (xmitPlan w bl)) s
      (transmit (storageOf w) bl s) := by
  have h := transmit_issues (storageOf w) bl s
  rw [wordOf_storageOf] at h
  exact h.reports hidle

/-! ### The words transmitted -/

/-- The second form of the address of R152. -/
theorem addrOf_eq_second_form {y : Int} (hy : y = 0 ∨ y = 1) (x offset : Int) :
    addrOf x y offset = 64 * y + (40 - offset + x) % 40 := by
  have hcol : 0x27 - offset + 1 + x = 40 - offset + x := by omega
  rw [addrOf, hcol]
  obtain rfl | rfl := hy
  · rfl
  · rfl

/-- The address of a legal position is below 128 whatever `OFFSET` holds, by the modulus of R8. -/
theorem addrOf_eq_ramAddress {x y : Byte} (s : State) (hlegal : inRange x y = true) :
    addrOf (signedOf x) (signedOf y) s.offset.toNat = ramAddress x y s ∧ ramAddress x y s < 128 := by
  rw [inRange, decide_eq_true_eq] at hlegal
  simp only [signedOf, Config.COLS, Config.ROWS] at hlegal
  rw [signedOf, signedOf, addrOf_eq_second_form (by omega), ramAddress]
  omega

/-- The mask of R118 keeps every address below 128. -/
theorem wordDdaddr_ofNat {n : Nat} (h : n < 128) : wordDdaddr (BitVec.ofNat 8 n) = 0x080 ||| BitVec.ofNat 10 n := by
  have hmask : (BitVec.ofNat 8 n &&& 0x7F).setWidth 10 = BitVec.ofNat 10 n := by
    apply BitVec.eq_of_toNat_eq
    rw [BitVec.toNat_setWidth, BitVec.toNat_and, BitVec.toNat_ofNat, BitVec.toNat_ofNat,
      show (0x7F : Byte).toNat = 2 ^ 7 - 1 from rfl, Nat.and_two_pow_sub_one_eq_mod]
    omega
  rw [wordDdaddr, hmask]

theorem wordDdaddr_addrByte {x y : Byte} (s : State) (hlegal : inRange x y = true) :
    wordDdaddr (addrByte (signedOf x) (signedOf y) s.offset.toNat) =
      0x080 ||| BitVec.ofNat 10 (ramAddress x y s) := by
  obtain ⟨haddr, hlt⟩ := addrOf_eq_ramAddress s hlegal
  rw [addrByte, haddr, BitVec.ofInt_natCast, wordDdaddr_ofNat hlt]

/-- A legal `MOVE` stores the logical position, then transmits the address of R152 (R151, R158). -/
theorem moveTo_of_inRange {x y : Byte} (hlegal : inRange x y = true) (bl : Bit) (s : State) :
    moveTo x y bl s = transmit (storageOf (0x080 ||| BitVec.ofNat 10 (ramAddress x y s))) bl
      { s with curX := x.setWidth 6, curY := y.setWidth 1 } := by
  rw [moveTo, if_pos hlegal, ← wordDdaddr_addrByte s hlegal]

theorem legalDirection_iff {dir : Byte} : legalDirection dir = true ↔ dir.toNat ≤ 1 := by
  simp only [legalDirection, Bool.or_eq_true, beq_iff_eq]
  bv_omega

/-- A legal direction is kept whole in the word (R157). -/
theorem wordShift_of_legal {dir : Byte} (hlegal : legalDirection dir = true) (mode : Bit) :
    wordShift mode (dir.extractLsb' 0 1) = 0x010 ||| (mode.setWidth 10 <<< 3) ||| (dir.setWidth 10 <<< 2) := by
  obtain rfl | rfl : dir = 0 ∨ dir = 1 := by simpa [legalDirection] using hlegal
  · rfl
  · rfl

/-! ### The operations -/

theorem xmit_reports {s : State} (hidle : s.seq = .idle) (iw : Storage) (bl : Bit) :
    ReportsPlan (.xmit iw bl) s (transmit iw bl s) := by
  have h := (transmit_issues iw bl s).reports hidle
  rw [wordOf_eq_setWidth] at h
  exact reportsPlan_of_legal rfl h

theorem moveTo_reports {s : State} (hidle : s.seq = .idle) (x y : Byte) (bl : Bit) :
    ReportsPlan (.move x y bl) s (moveTo x y bl s) := by
  by_cases hlegal : inRange x y = true
  · rw [moveTo_of_inRange hlegal]
    exact reportsPlan_of_legal hlegal (transmit_storageOf_reports
      (s := { s with curX := x.setWidth 6, curY := y.setWidth 1 }) hidle ..)
  · rw [moveTo, if_neg hlegal]
    exact reportsPlan_raise_of_illegal s hlegal

theorem shiftBy_reports {s : State} (hidle : s.seq = .idle) (mode : Bit) (dir : Byte) (bl : Bit) :
    ReportsPlan (.shift mode dir bl) s (shiftBy mode dir bl s) := by
  by_cases hlegal : legalDirection dir = true
  · obtain ⟨x, y, o, htracker⟩ := shiftTracker_eq mode dir s
    rw [shiftBy, if_pos hlegal, htracker, wordShift_of_legal hlegal]
    exact reportsPlan_of_legal (decide_eq_true (legalDirection_iff.mp hlegal)) (transmit_storageOf_reports
      (s := { s with curX := x, curY := y, offset := o }) hidle ..)
  · rw [shiftBy, if_neg hlegal]
    exact reportsPlan_raise_of_illegal s (by simpa [operandsLegal, legalDirection_iff] using hlegal)

/-- `SHIFTDISPLAY` has the plan of the display shift it stands for (R181). -/
theorem shiftdisplay_reports {s : State} (hidle : s.seq = .idle) (right : Bit) :
    ReportsPlan (.shiftdisplay right) s (shiftBy 1 (zext8 right) s.cfg.facadeBl s) := by
  have h := shiftBy_reports hidle 1 (zext8 right) s.cfg.facadeBl
  obtain rfl | rfl := BitVec.eq_zero_or_eq_one right
  · exact h
  · exact h

/-- The raw bytes and the words of the plan of `INIT` are those of its two loops (R172, R173). -/
theorem plan_init (h : Handle) (s : State) :
    plan (.init h) s = (s.cfg.initSteps.map fun step => .write step.1) ++
      (initWords s.cfg).flatMap fun step => xmitPlan step.1 s.cfg.facadeBl := by
  have hraw : s.cfg.initRaw.map Txn.write = s.cfg.initSteps.map fun step => .write step.1 := List.map_map
  have hwords : [0x028, 0x00E, 0x001, 0x007].flatMap (fun w => xmitPlan w s.cfg.facadeBl) =
      (initWords s.cfg).flatMap fun step => xmitPlan step.1 s.cfg.facadeBl :=
    List.flatMap_map Prod.fst (fun w => xmitPlan w s.cfg.facadeBl) (initWords s.cfg)
  exact congrArg₂ (· ++ ·) hraw hwords

/-- `INIT` issues its raw writes and its four words, through the handle it stores (R172). -/
theorem initialiseDevice_issues (h : Handle) (s : State) :
    Issues (plan (.init h) s) { s with handle := h, handleSet := true } (initialiseDevice h s) := by
  rw [plan_init, initialiseDevice]
  exact (rawWrites_issues ..).after_delay.ifOk (timedWords_issues ..)

/-- Settles O22: for each operation, by what its meaning transmits. -/
theorem operationsIssueTheirPlan : Obligations.OperationsIssueTheirPlan := by
  intro i s hop ⟨hidle, hset⟩
  cases i with
  | xmit iw bl => exact ⟨_, whenIdle_of_idle _ hidle, xmit_reports hidle iw bl⟩
  | move x y bl => exact ⟨_, whenIdle_of_idle _ hidle, moveTo_reports hidle x y bl⟩
  | shift mode dir bl => exact ⟨_, whenIdle_of_idle _ hidle, shiftBy_reports hidle mode dir bl⟩
  | rddata | rdbusy => exact ⟨_, whenIdle_of_idle _ hidle, (List.append_nil _).symm, rfl, rfl, hidle⟩
  | init h =>
    exact ⟨_, whenIdle_of_idle _ hidle, reportsPlan_of_legal rfl ((initialiseDevice_issues h s).reports hidle)⟩
  | clear =>
    exact ⟨_, whenInitialised_of_set _ hidle (hset rfl),
      reportsPlan_of_legal rfl (transmit_storageOf_reports hidle ..)⟩
  | movecursor x y => exact ⟨_, whenInitialised_of_set _ hidle (hset rfl), moveTo_reports hidle x y s.cfg.facadeBl⟩
  | showchar c =>
    exact ⟨_, whenInitialised_of_set _ hidle (hset rfl),
      reportsPlan_of_legal rfl (transmit_storageOf_reports hidle ..)⟩
  | showstr cs =>
    exact ⟨_, whenInitialised_of_set _ hidle (hset rfl),
      reportsPlan_of_legal rfl ((sendString_issues ..).reports hidle)⟩
  | shiftdisplay right => exact ⟨_, whenInitialised_of_set _ hidle (hset rfl), shiftdisplay_reports hidle right⟩
  | _ => cases hop

end Sys2Proof.Machine
end

section
/-! The position tracker (R150 to R160): what `MOVE` and `SHIFT` leave in `CUR_X`, `CUR_Y` and `OFFSET`, and the
address `MOVE` transmits. A transmission keeps the three registers whatever its answers are, so an operation's tracker
is the one its update makes before it transmits (R158). -/

namespace Sys2Proof.Machine

/-! ### Transmissions and the tracker -/

@[simp] theorem transmit_curX (iw : Storage) (bl : Bit) (s : State) : (transmit iw bl s).curX = s.curX :=
  (transmit_issues iw bl s).curX

@[simp] theorem transmit_curY (iw : Storage) (bl : Bit) (s : State) : (transmit iw bl s).curY = s.curY :=
  (transmit_issues iw bl s).curY

@[simp] theorem transmit_offset (iw : Storage) (bl : Bit) (s : State) : (transmit iw bl s).offset = s.offset :=
  (transmit_issues iw bl s).offset

theorem trackerOf_eq_iff {s t : State} :
    trackerOf t = trackerOf s ↔ t.curX = s.curX ∧ t.curY = s.curY ∧ t.offset = s.offset := by
  simp [trackerOf]

@[simp] theorem trackerOf_transmit (iw : Storage) (bl : Bit) (s : State) :
    trackerOf (transmit iw bl s) = trackerOf s := by
  simp [trackerOf]

/-! ### `MOVE` -/

theorem inRange_iff {x y : Byte} :
    inRange x y = true ↔ 0 ≤ x.toInt ∧ x.toInt < 40 ∧ 0 ≤ y.toInt ∧ y.toInt < 2 :=
  decide_eq_true_iff

/-- Between operations, ending with a status changes that status only (R194, R196). -/
theorem raise_of_idle {s : State} (hidle : s.seq = .idle) (st : Status) :
    raise st s = { s with status := some st } := by
  rw [raise, ← hidle]

/-- A byte that is not negative as an `s8` and fits in `n` bits is kept whole in them (R21, R22, R151). -/
theorem toNat_setWidth_of_toInt {v : Byte} {n : Nat} (hnonneg : 0 ≤ v.toInt) (hlt : v.toInt < 2 ^ n) :
    ((v.setWidth n).toNat : Int) = v.toInt := by
  have hv : v.toInt = v.toNat := BitVec.toInt_eq_toNat_of_msb (BitVec.msb_eq_false_iff_two_mul_lt.mpr (by
    rw [BitVec.toInt_eq_toNat_cond] at hnonneg
    omega))
  rw [hv] at hlt ⊢
  rw [BitVec.toNat_setWidth, Nat.mod_eq_of_lt (by exact_mod_cast hlt)]

theorem moveTo_offset (x y : Byte) (bl : Bit) (s : State) : (moveTo x y bl s).offset = s.offset := by
  unfold moveTo
  split
  · exact transmit_offset ..
  · rfl

/-- Settles O24: a legal `MOVE` stores its operands and then transmits, and an illegal one raises. -/
theorem moveStoresTheLogicalPosition : Obligations.MoveStoresTheLogicalPosition := by
  intro s x y bl hidle
  have hexec : exec (.move x y bl) s = .next (moveTo x y bl s) := whenIdle_of_idle _ hidle
  refine ⟨fun hlegal => ⟨_, hexec, ?_, ?_, moveTo_offset x y bl s⟩, fun hillegal => ?_⟩
  · rw [moveTo_of_inRange (inRange_iff.mpr hlegal), transmit_curX]
    obtain ⟨hx, hx', -, -⟩ := hlegal
    exact toNat_setWidth_of_toInt hx (by omega)
  · rw [moveTo_of_inRange (inRange_iff.mpr hlegal), transmit_curY]
    obtain ⟨-, -, hy, hy'⟩ := hlegal
    exact toNat_setWidth_of_toInt hy (by omega)
  · rw [hexec, moveTo, if_neg (mt inRange_iff.mp hillegal), raise_of_idle hidle]

/-! ### The address `MOVE` transmits -/

/-- An operation whose plan is one transmission sends it whole when the next five answers are good (R135). -/
theorem endsWith_of_plan_eq_xmitPlan {i : Instr} {s t : State} {w : Word} {bl : Bit} (hexec : exec i s = .next t)
    (hreports : ReportsPlan i s t) (hlegal : operandsLegal i = true) (hplan : plan i s = xmitPlan w bl)
    (hgood : AllGood s 5) :
    EndsWith i s (goodEvents (bytesOf w bl)) .ok (latchOf (goodEvents (bytesOf w bl)) s.exp) := by
  obtain ⟨hissue, hstatus⟩ := issue_xmitPlan_of_allGood hgood w bl
  rw [ReportsPlan, expectedEvents, expectedStatus, if_pos hlegal, if_pos hlegal, hplan, hissue, hstatus] at hreports
  obtain ⟨htrace, hst, hexp, -⟩ := hreports
  exact ⟨t, hexec, htrace, hst, hexp⟩

theorem toInt_eq_toNat_of_lt_forty {v : Byte} (h : v.toNat < 40) : v.toInt = v.toNat :=
  BitVec.toInt_eq_toNat_of_lt (by omega)

/-- With `OFFSET` in its range the address needs no negative intermediate value (R152). -/
theorem ramAddress_eq_toNat {x y : Byte} {s : State} (hoffset : s.offset.toNat ≤ 39) (hx : x.toNat < 40)
    (hy : y.toNat < 2) : ramAddress x y s = 64 * y.toNat + (40 - s.offset.toNat + x.toNat) % 40 := by
  rw [ramAddress, toInt_eq_toNat_of_lt_forty hx, toInt_eq_toNat_of_lt_forty (by omega)]
  omega

/-- Settles O25: R152's formula is the address in the plan of `MOVE`, and the rest is arithmetic on its second form. -/
theorem moveTransmitsThePhysicalAddress : Obligations.MoveTransmitsThePhysicalAddress := by
  intro s x y bl a hidle hgood hoffset hx hy ha
  have hform : a = 64 * y.toNat + (40 - s.offset.toNat + x.toNat) % 40 := by
    split at ha <;> omega
  have hlegal : operandsLegal (.move x y bl) = true := by
    rw [operandsLegal, decide_eq_true_iff, toInt_eq_toNat_of_lt_forty hx, toInt_eq_toNat_of_lt_forty (by omega)]
    omega
  have hplan : plan (.move x y bl) s = xmitPlan (0x080 ||| BitVec.ofNat 10 a) bl := by
    rw [hform, ← ramAddress_eq_toNat hoffset hx hy]
    rfl
  refine ⟨?_, hform, by omega, ?_⟩
  · exact endsWith_of_plan_eq_xmitPlan (whenIdle_of_idle _ hidle) (moveTo_reports hidle x y bl) hlegal hplan hgood
  · rintro hzero rfl
    rw [hform, hzero]
    exact ⟨by rintro rfl; rfl, by rintro rfl; rfl⟩

/-! ### The four shift updates -/

@[simp] theorem shiftTracker_display_curX (dir : Byte) (s : State) : (shiftTracker 1 dir s).curX = s.curX := by
  rw [shiftTracker, if_pos rfl]
  split <;> rfl

@[simp] theorem shiftTracker_display_curY (dir : Byte) (s : State) : (shiftTracker 1 dir s).curY = s.curY := by
  rw [shiftTracker, if_pos rfl]
  split <;> rfl

@[simp] theorem cursorRight_offset (s : State) : (cursorRight s).offset = s.offset := by
  unfold cursorRight
  split <;> rfl

@[simp] theorem cursorLeft_offset (s : State) : (cursorLeft s).offset = s.offset := by
  unfold cursorLeft
  split <;> rfl

@[simp] theorem shiftTracker_cursor_offset (dir : Byte) (s : State) : (shiftTracker 0 dir s).offset = s.offset := by
  rw [shiftTracker, if_neg (by decide)]
  split
  · exact cursorRight_offset s
  · exact cursorLeft_offset s

/-- The row flip of R155 and R156, on numbers. -/
theorem toNat_one_sub_bit (b : Bit) : (1 - b).toNat = 1 - b.toNat := by
  revert b; decide

theorem cursorRight_of_lt {s : State} (h : s.curX.toNat < 39) :
    (cursorRight s).curX.toNat = s.curX.toNat + 1 ∧ (cursorRight s).curY = s.curY := by
  rw [cursorRight, if_neg (by bv_omega)]
  exact ⟨by bv_omega, rfl⟩

theorem cursorRight_of_last {s : State} (h : s.curX.toNat = 39) :
    (cursorRight s).curX.toNat = 0 ∧ (cursorRight s).curY.toNat = 1 - s.curY.toNat := by
  rw [cursorRight, if_pos (BitVec.eq_of_toNat_eq h)]
  exact ⟨rfl, toNat_one_sub_bit s.curY⟩

theorem cursorLeft_of_pos {s : State} (h : 0 < s.curX.toNat) :
    (cursorLeft s).curX.toNat = s.curX.toNat - 1 ∧ (cursorLeft s).curY = s.curY := by
  rw [cursorLeft, if_neg (by bv_omega)]
  exact ⟨by bv_omega, rfl⟩

theorem cursorLeft_of_first {s : State} (h : s.curX.toNat = 0) :
    (cursorLeft s).curX.toNat = 39 ∧ (cursorLeft s).curY.toNat = 1 - s.curY.toNat := by
  rw [cursorLeft, if_pos (BitVec.eq_of_toNat_eq h)]
  exact ⟨rfl, toNat_one_sub_bit s.curY⟩

/-! ### `SHIFT` -/

/-- A legal `SHIFT` leaves its tracker update, whatever the transport answers (R157, R158). -/
theorem trackerOf_shiftBy_of_legal {dir : Byte} (hlegal : legalDirection dir = true) (mode : Bit) (bl : Bit)
    (s : State) : trackerOf (shiftBy mode dir bl s) = trackerOf (shiftTracker mode dir s) := by
  rw [shiftBy, if_pos hlegal, trackerOf_transmit]

/-- `SHIFT` leaves the tracker, or it leaves what its update makes of it (R157). -/
theorem trackerOf_shift_next {mode : Bit} {dir : Byte} {bl : Bit} {s t : State}
    (h : exec (.shift mode dir bl) s = .next t) :
    trackerOf t = trackerOf s ∨ trackerOf t = trackerOf (shiftTracker mode dir s) := by
  obtain ⟨-, rfl⟩ := whenIdle_next_iff.mp h
  by_cases hlegal : legalDirection dir = true
  · exact .inr (trackerOf_shiftBy_of_legal hlegal mode bl s)
  · rw [shiftBy, if_neg hlegal]
    exact .inl rfl

/-- Between operations a legal `SHIFT` completes with its tracker update made. -/
theorem exec_shift_of_legal {s : State} (hidle : s.seq = .idle) {dir : Byte} (hlegal : legalDirection dir = true)
    (mode bl : Bit) :
    ∃ t, exec (.shift mode dir bl) s = .next t ∧ t.curX = (shiftTracker mode dir s).curX ∧
      t.curY = (shiftTracker mode dir s).curY ∧ t.offset = (shiftTracker mode dir s).offset :=
  ⟨_, whenIdle_of_idle _ hidle, trackerOf_eq_iff.mp (trackerOf_shiftBy_of_legal hlegal mode bl s)⟩

/-- Settles O27: the update of each direction, inside the row and at its end. -/
theorem cursorShiftMovesTheCursor : Obligations.CursorShiftMovesTheCursor := by
  intro s bl hidle _
  constructor
  · obtain ⟨t, hexec, hx, hy, hoffset⟩ := exec_shift_of_legal hidle (dir := 1) rfl 0 bl
    refine ⟨t, hexec, hoffset.trans (cursorRight_offset s), ?_⟩
    rw [hx, hy]
    exact ⟨cursorRight_of_lt, cursorRight_of_last⟩
  · obtain ⟨t, hexec, hx, hy, hoffset⟩ := exec_shift_of_legal hidle (dir := 0) rfl 0 bl
    refine ⟨t, hexec, hoffset.trans (cursorLeft_offset s), ?_⟩
    rw [hx, hy]
    exact ⟨cursorLeft_of_pos, cursorLeft_of_first⟩

/-! ### The frame of the tracker -/

theorem isOperation_eq_false_of_isBuilder {i : Instr} (h : isBuilder i = true) : isOperation i = false := by
  cases i with
  | iwClear | iwHome | iwEntry | iwDisp | iwShift | iwFunc | iwCgaddr | iwDdaddr | iwWdata | iwRbusy | iwRdata => rfl
  | _ => cases h

theorem trackerOf_builder_next {i : Instr} {s t : State} (hi : isBuilder i = true) (h : exec i s = .next t) :
    trackerOf t = trackerOf s := by
  obtain ⟨v, hv⟩ := exec_eq_returnValue (isOperation_eq_false_of_isBuilder hi) s
  cases hv.symm.trans h
  rfl

/-- Settles O31: by the registers each update writes; what is not an update transmits, returns a value, or does
neither. -/
theorem trackerFrame : Obligations.TrackerFrame := by
  refine ⟨fun s t x y bl h => ?move, fun s t dir bl h => ?display, fun s t dir bl h => ?cursor,
    fun i s t hi h => ?others⟩
  case move =>
    obtain ⟨-, rfl⟩ := whenIdle_next_iff.mp h
    exact moveTo_offset x y bl s
  case display =>
    obtain hkept | hupdate := trackerOf_shift_next h
    · obtain ⟨hx, hy, -⟩ := trackerOf_eq_iff.mp hkept
      exact ⟨hx, hy⟩
    · obtain ⟨hx, hy, -⟩ := trackerOf_eq_iff.mp hupdate
      exact ⟨hx.trans (shiftTracker_display_curX dir s), hy.trans (shiftTracker_display_curY dir s)⟩
  case cursor =>
    obtain hkept | hupdate := trackerOf_shift_next h
    · obtain ⟨-, -, hoffset⟩ := trackerOf_eq_iff.mp hkept
      exact hoffset
    · obtain ⟨-, -, hoffset⟩ := trackerOf_eq_iff.mp hupdate
      exact hoffset.trans (shiftTracker_cursor_offset dir s)
  case others =>
    obtain ⟨iw, bl, rfl⟩ | hbuilder | rfl | rfl := hi
    · obtain ⟨-, rfl⟩ := whenIdle_next_iff.mp h
      exact trackerOf_transmit iw bl s
    · exact trackerOf_builder_next hbuilder h
    · obtain ⟨-, rfl⟩ := whenIdle_next_iff.mp h
      rfl
    · obtain ⟨-, rfl⟩ := whenIdle_next_iff.mp h
      rfl

end Sys2Proof.Machine
end

section
/-! Refused operands (R194): an operation that completes was accepted, so its status is the one its plan gives, and
issuing a plan never ends with `InvalidParameter`. -/

namespace Sys2Proof.Machine

/-- The transport's failures are the only errors of a transmission (R192, R193). -/
theorem issueStatus_ne_invalidParameter (ans : Nat → Config.Reply) (ts : List Txn) (k : Nat) :
    issueStatus ans k ts ≠ .invalidParameter := by
  induction ts generalizing k with
  | nil => exact Status.noConfusion
  | cons a ts ih =>
    cases a with
    | probe | write =>
      rw [issueStatus]
      split
      · exact ih (k + 1)
      · exact Status.noConfusion

theorem expectedStatus_eq_invalidParameter_iff {i : Instr} {s : State} :
    expectedStatus i s = .invalidParameter ↔ operandsLegal i = false := by
  rw [expectedStatus]
  split
  next h => simp [h, issueStatus_ne_invalidParameter]
  next h => simp [h]

theorem illegalPosition_iff {x y : Byte} :
    ¬(0 ≤ x.toInt ∧ x.toInt < 40 ∧ 0 ≤ y.toInt ∧ y.toInt < 2) ↔
      x.toInt < 0 ∨ 40 ≤ x.toInt ∨ y.toInt < 0 ∨ 2 ≤ y.toInt := by
  omega

theorem illegalDirection_iff {dir : Byte} : ¬dir.toNat ≤ 1 ↔ dir ≠ 0 ∧ dir ≠ 1 := by
  bv_omega

/-- The operands the port refuses, operation by operation (R151, R157, R178). -/
theorem operandsLegal_eq_false_iff {i : Instr} :
    operandsLegal i = false ↔
      (∃ x y, ((∃ bl, i = .move x y bl) ∨ i = .movecursor x y) ∧
        (x.toInt < 0 ∨ 40 ≤ x.toInt ∨ y.toInt < 0 ∨ 2 ≤ y.toInt)) ∨
      (∃ mode dir bl, i = .shift mode dir bl ∧ dir ≠ 0 ∧ dir ≠ 1) := by
  cases i with
  | move x y bl | movecursor x y =>
    rw [operandsLegal, decide_eq_false_iff_not, illegalPosition_iff]
    simp
  | shift mode dir bl =>
    rw [operandsLegal, decide_eq_false_iff_not, illegalDirection_iff]
    simp
  | _ => simp [operandsLegal]

/-- An operation that completes is one the port accepted (R182, R207). -/
theorem accepts_of_exec_next {i : Instr} {s t : State} (hop : isOperation i = true) (h : exec i s = .next t) :
    Accepts i s := by
  cases i with
  | xmit | move | shift | rddata | rdbusy | init =>
    obtain ⟨hidle, -⟩ := whenIdle_next_iff.mp h
    exact ⟨hidle, nofun⟩
  | clear | movecursor | showchar | showstr | shiftdisplay =>
    obtain ⟨hidle, hset, -⟩ := whenInitialised_next_iff.mp h
    exact ⟨hidle, fun _ => hset⟩
  | _ => cases hop

/-- What a completed operation leaves in `STATUS` (R190 to R194). -/
theorem status_of_exec_next {i : Instr} {s t : State} (hop : isOperation i = true) (h : exec i s = .next t) :
    t.status = some (expectedStatus i s) := by
  obtain ⟨t', ht', -, hstatus, -⟩ := operationsIssueTheirPlan i s hop (accepts_of_exec_next hop h)
  cases ht'.symm.trans h
  exact hstatus

theorem moveTo_of_illegal {x y : Byte} (hillegal : inRange x y = false) (bl : Bit) (s : State) :
    moveTo x y bl s = raise .invalidParameter s := by
  rw [moveTo, hillegal, if_neg Bool.false_ne_true]

theorem shiftBy_of_illegal {dir : Byte} (hillegal : legalDirection dir = false) (mode bl : Bit) (s : State) :
    shiftBy mode dir bl s = raise .invalidParameter s := by
  rw [shiftBy, hillegal, if_neg Bool.false_ne_true]

theorem operandsLegal_shift (mode : Bit) (dir : Byte) (bl : Bit) :
    operandsLegal (.shift mode dir bl) = legalDirection dir := by
  rw [operandsLegal, Bool.eq_iff_iff, decide_eq_true_iff, legalDirection_iff]

/-- The port answers refused operands by raising, before the tracker and the transport are touched (R194, R196). -/
theorem exec_of_illegal {i : Instr} {s : State} (haccepts : Accepts i s) (hillegal : operandsLegal i = false) :
    exec i s = .next (raise .invalidParameter s) := by
  obtain ⟨hidle, hset⟩ := haccepts
  cases i with
  | move x y bl =>
    rw [← moveTo_of_illegal hillegal bl]
    exact whenIdle_of_idle _ hidle
  | movecursor x y =>
    rw [← moveTo_of_illegal hillegal s.cfg.facadeBl]
    exact whenInitialised_of_set _ hidle (hset rfl)
  | shift mode dir bl =>
    rw [operandsLegal_shift] at hillegal
    rw [← shiftBy_of_illegal hillegal mode bl]
    exact whenIdle_of_idle _ hidle
  | _ => cases hillegal

/-- Settles O29: between operations a raise changes the status only, and the status of an operation that completes is
the one its plan gives. -/
theorem invalidParameterHasNoSideEffects : Obligations.InvalidParameterHasNoSideEffects := by
  refine ⟨fun i s _ haccepts hillegal => ?_, fun i s t hop h => ?_⟩
  · rw [exec_of_illegal haccepts hillegal]
    obtain ⟨hidle, -⟩ := haccepts
    rw [raise_of_idle hidle]
  · rw [status_of_exec_next hop h, Option.some_inj, expectedStatus_eq_invalidParameter_iff,
      operandsLegal_eq_false_iff]

end Sys2Proof.Machine
end

section
/-! The round trip of instructions and requests (R81 to R92, R122): a builder function is read back from its word, a
command from its record and an output byte from its fields, so decoding undoes encoding up to the bits that encoding
drops, and encoding undoes decoding up to the bits that nothing reads. -/

namespace Sys2Proof.Machine

/-! ### The words of the builder functions -/

/-- The word a builder function returns (R111 to R121); the other instructions return none, and 0 stands for that. -/
def builderWord (i : Instr) : Word :=
  match i with
  | .iwClear => wordClear
  | .iwHome => wordHome
  | .iwEntry inc sh => wordEntry inc sh
  | .iwDisp d c b => wordDisp d c b
  | .iwShift sd r => wordShift sd r
  | .iwFunc n f => wordFunc n f
  | .iwCgaddr a => wordCgaddr a
  | .iwDdaddr a => wordDdaddr a
  | .iwWdata d => wordWdata d
  | .iwRbusy => wordRbusy
  | .iwRdata => wordRdata
  | _ => 0

theorem exec_builder {i : Instr} (hi : isBuilder i = true) (s : State) :
    exec i s = .next { s with result := some (.word (storageOf (builderWord i))) } := by
  cases i with
  | iwClear | iwHome | iwEntry | iwDisp | iwShift | iwFunc | iwCgaddr | iwDdaddr | iwWdata | iwRbusy | iwRdata => rfl
  | _ => cases hi

/-- The opcode map of R91 reads back the function and its operands from the word, the masked address for the two
address functions (R122). -/
theorem decodeWord_builderWord {i : Instr} (hi : isBuilder i = true) :
    decodeWord (builderWord i) = some i.canonical := by
  cases i with
  | iwClear | iwHome | iwRbusy | iwRdata => rfl
  | iwEntry inc sh => revert inc sh; decide +kernel
  | iwDisp d c b => revert d c b; decide +kernel
  | iwShift sd r => revert sd r; decide +kernel
  | iwFunc n f => revert n f; decide +kernel
  | iwCgaddr a => revert a; decide +kernel
  | iwDdaddr a => revert a; decide +kernel
  | iwWdata d => revert d; decide +kernel
  | _ => cases hi

/-! ### Decoding what was encoded -/

/-- The operand bits that `canonical` clears are those the encoding drops (R87). -/
theorem encode_canonical (i : Instr) : encode i.canonical = encode i := by
  cases i with
  | iwCgaddr a => exact (Laws.CanonWf.iwCgaddr a).2
  | iwDdaddr a => exact (Laws.CanonWf.iwDdaddr a).2
  | _ => rfl

/-- A builder function is presented as the word it returns (R91). -/
theorem encode_builder {i : Instr} (hi : isBuilder i = true) : encode i = iwRequest (builderWord i) := by
  obtain ⟨-, h⟩ := encode_of_decodeWord (decodeWord_builderWord hi)
  rwa [encode_canonical] at h

theorem decode_encode_builder {i : Instr} (hi : isBuilder i = true) : decode (encode i) = .ok i.canonical := by
  rw [encode_builder hi, decode_iwRequest, decodeWord_builderWord hi]

/-- The fields of an output byte are read back (R83). -/
theorem decode_encode_ob (n : BitVec 4) (bl en rw rs : Bit) :
    decode (encode (.ob n bl en rw rs)) = .ok (.ob n bl en rw rs) := by
  revert n bl en rw rs; decide +kernel

theorem decode_encode (i : Instr) : decode (encode i) = .ok i.canonical := by
  cases i with
  | iwClear | iwHome | iwEntry | iwDisp | iwShift | iwFunc | iwCgaddr | iwDdaddr | iwWdata | iwRbusy | iwRdata =>
    exact decode_encode_builder rfl
  | xmit iw bl =>
    rw [encode, decode_cmdRequest, decodeCmd, if_pos rfl, readXmit, flagOf_setWidth, storage_of_bytes]
    rfl
  | move x y bl | shift mode dir bl | shiftdisplay right =>
    simp only [encode, decode_cmdRequest, decodeCmd, readMove, readShift, readShiftdisplay, flagOf_setWidth]
    rfl
  | ob n bl en rw rs => exact decode_encode_ob n bl en rw rs
  | rddata | rdbusy | init | clear | movecursor | showchar | showstr => rfl

/-- An address below the mask is not changed by it (R87). -/
theorem and_mask_eq_self {a m : Byte} {n : Nat} (hm : m.toNat = 2 ^ n - 1) (ha : a.toNat < 2 ^ n) : a &&& m = a := by
  apply BitVec.eq_of_toNat_eq
  rw [BitVec.toNat_and, hm, Nat.and_two_pow_sub_one_eq_mod, Nat.mod_eq_of_lt ha]

/-- A well-formed instruction has no operand bit that its encoding drops. -/
theorem canonical_of_wellFormed {i : Instr} (hi : i.wellFormed = true) : i.canonical = i := by
  cases i with
  | iwCgaddr a => exact congrArg Instr.iwCgaddr (and_mask_eq_self (n := 6) rfl (of_decide_eq_true hi))
  | iwDdaddr a => exact congrArg Instr.iwDdaddr (and_mask_eq_self (n := 7) rfl (of_decide_eq_true hi))
  | _ => rfl

/-- Settles O2: decoding gives the canonical form, which for a well-formed instruction is the instruction. -/
theorem decodeOfEncodeIsTheInstruction : Obligations.DecodeOfEncodeIsTheInstruction := by
  intro i hi
  rw [decode_encode, canonical_of_wellFormed hi]

/-- The address bits that `canonical` clears change no effect (R87). -/
theorem exec_canonical (i : Instr) (s : State) : exec i.canonical s = exec i s := by
  cases i with
  | iwCgaddr a => exact exec_iwCgaddr_congr (Laws.CanonWf.mask6 a).2 s
  | iwDdaddr a => exact exec_iwDdaddr_congr (Laws.CanonWf.mask7 a).2 s
  | _ => rfl

/-- Settles O4: what decoding gives back is the canonical form, and only the masked addresses differ from it. -/
theorem encodingDropsOnlyMaskedAddressBits : Obligations.EncodingDropsOnlyMaskedAddressBits :=
  fun i => ⟨decode_encode i, exec_canonical i⟩

/-! ### Encoding what was decoded -/

/-- `i` is well-formed and `r` is how it is presented. -/
def Presents (i : Instr) (r : Request) : Prop := i.wellFormed = true ∧ encode i = r

/-- The word in two bytes of storage: the second byte's bits above the word are cleared (R82, R95). -/
theorem iwRequest_of_bytes (lo hi : Byte) : iwRequest (hi.extractLsb' 0 2 ++ lo) = ⟨.iw, [lo, hi &&& 0x03]⟩ := by
  have hmask : ∀ b : Byte, (b.extractLsb' 0 2).setWidth 8 = b &&& 0x03 := by decide +kernel
  rw [iwRequest, BitVec.extractLsb'_append_eq_right, BitVec.extractLsb'_append_eq_left, hmask]

theorem presents_of_decodeIw {bs : List Byte} {i : Instr} (h : decodeIw bs = .ok i) :
    Presents i (Request.canonical ⟨.iw, bs⟩) := by
  unfold decodeIw at h
  split at h
  next lo hi =>
    dsimp only at h
    split at h
    next j hj =>
      cases h
      obtain ⟨hwf, henc⟩ := encode_of_decodeWord hj
      exact ⟨hwf, henc.trans (iwRequest_of_bytes lo hi)⟩
    next => cases h
  next => cases h

theorem presents_of_decodeOb {bs : List Byte} {i : Instr} (h : decodeOb bs = .ok i) : Presents i ⟨.ob, bs⟩ := by
  unfold decodeOb at h
  split at h
  next b =>
    cases h
    refine ⟨rfl, ?_⟩
    revert b; decide +kernel
  next => cases h

theorem eq_of_map_eq_ok {α β ε : Type} {x : Except ε α} {f : α → β} {b : β} (h : x.map f = .ok b) :
    ∃ a, x = .ok a ∧ f a = b := by
  cases x with
  | error e => cases h
  | ok a => cases h; exact ⟨a, rfl, rfl⟩

theorem eq_of_bind_eq_ok {α β ε : Type} {x : Except ε α} {f : α → Except ε β} {b : β} (h : x.bind f = .ok b) :
    ∃ a, x = .ok a ∧ f a = .ok b := by
  cases x with
  | error e => cases h
  | ok a => exact ⟨a, rfl, h⟩

theorem presents_of_readXmit {ops : List Byte} {i : Instr} (h : readXmit ops = .ok i) :
    Presents i (cmdRequest 0 ops) := by
  unfold readXmit at h
  split at h
  next lo hi bl =>
    obtain ⟨v, hv, rfl⟩ := eq_of_map_eq_ok h
    refine ⟨rfl, ?_⟩
    rw [encode, BitVec.extractLsb'_append_eq_right, BitVec.extractLsb'_append_eq_left, setWidth_of_flagOf hv]
  next => cases h

theorem presents_of_readMove {ops : List Byte} {i : Instr} (h : readMove ops = .ok i) :
    Presents i (cmdRequest 1 ops) := by
  unfold readMove at h
  split at h
  next x y bl =>
    obtain ⟨v, hv, rfl⟩ := eq_of_map_eq_ok h
    exact ⟨rfl, by rw [encode, setWidth_of_flagOf hv]⟩
  next => cases h

theorem presents_of_readShift {ops : List Byte} {i : Instr} (h : readShift ops = .ok i) :
    Presents i (cmdRequest 2 ops) := by
  unfold readShift at h
  split at h
  next mode dir bl =>
    obtain ⟨m, hm, h⟩ := eq_of_bind_eq_ok h
    obtain ⟨v, hv, rfl⟩ := eq_of_map_eq_ok h
    exact ⟨rfl, by rw [encode, setWidth_of_flagOf hm, setWidth_of_flagOf hv]⟩
  next => cases h

theorem presents_of_readNone {sel : Byte} {i j : Instr} {ops : List Byte} (hi : Presents i (cmdRequest sel []))
    (h : readNone sel i ops = .ok j) : Presents j (cmdRequest sel ops) := by
  unfold readNone at h
  split at h
  next => cases h; exact hi
  next => cases h

theorem presents_of_readMovecursor {ops : List Byte} {i : Instr} (h : readMovecursor ops = .ok i) :
    Presents i (cmdRequest 10 ops) := by
  unfold readMovecursor at h
  split at h
  next x y => cases h; exact ⟨rfl, rfl⟩
  next => cases h

theorem presents_of_readShowchar {ops : List Byte} {i : Instr} (h : readShowchar ops = .ok i) :
    Presents i (cmdRequest 11 ops) := by
  unfold readShowchar at h
  split at h
  next c => cases h; exact ⟨rfl, rfl⟩
  next => cases h

theorem presents_of_readShiftdisplay {ops : List Byte} {i : Instr} (h : readShiftdisplay ops = .ok i) :
    Presents i (cmdRequest 13 ops) := by
  unfold readShiftdisplay at h
  split at h
  next right =>
    obtain ⟨v, hv, rfl⟩ := eq_of_map_eq_ok h
    exact ⟨rfl, by rw [encode, setWidth_of_flagOf hv]⟩
  next => cases h

theorem presents_init {ops : List Byte} {i : Instr} (h : .ok (.init ops) = (.ok i : Except DecodeError Instr)) :
    Presents i (cmdRequest 8 ops) := by
  cases h; exact ⟨rfl, rfl⟩

theorem presents_showstr {ops : List Byte} {i : Instr} (h : .ok (.showstr ops) = (.ok i : Except DecodeError Instr)) :
    Presents i (cmdRequest 12 ops) := by
  cases h; exact ⟨rfl, rfl⟩

/-- One selector of R85: its own reader `x` for it, and `y` for the others. -/
theorem presents_of_selector {sel k : Byte} {ops : List Byte} {i : Instr} {x y : Except DecodeError Instr}
    (hx : x = .ok i → Presents i (cmdRequest k ops)) (hy : y = .ok i → Presents i (cmdRequest sel ops))
    (h : (if sel = k then x else y) = .ok i) : Presents i (cmdRequest sel ops) := by
  split at h
  next hsel => rw [hsel]; exact hx h
  next => exact hy h

/-- One selector after another (R85): the record of an operation is read by that operation's own reader. -/
theorem presents_of_decodeCmd {bs : List Byte} {i : Instr} (h : decodeCmd bs = .ok i) : Presents i ⟨.cmd, bs⟩ := by
  unfold decodeCmd at h
  split at h
  next => cases h
  next sel ops =>
    revert h
    exact presents_of_selector presents_of_readXmit
      (presents_of_selector presents_of_readMove
      (presents_of_selector presents_of_readShift
      (presents_of_selector (presents_of_readNone ⟨rfl, rfl⟩)
      (presents_of_selector (presents_of_readNone ⟨rfl, rfl⟩)
      (presents_of_selector presents_init
      (presents_of_selector (presents_of_readNone ⟨rfl, rfl⟩)
      (presents_of_selector presents_of_readMovecursor
      (presents_of_selector presents_of_readShowchar
      (presents_of_selector presents_showstr
      (presents_of_selector presents_of_readShiftdisplay nofun))))))))))

/-- Settles O3: format by format, each reader accepts only what the encoder presents its instruction as. -/
theorem encodeOfDecodeIsTheRequest : Obligations.EncodeOfDecodeIsTheRequest := by
  rintro ⟨format, bytes⟩ i h
  cases format with
  | iw => exact presents_of_decodeIw h
  | cmd => exact presents_of_decodeCmd h
  | ob => exact presents_of_decodeOb h

/-! ### The images of the builder functions -/

/-- A word comes back whole from its storage (R82). -/
theorem storageOf_injective {v w : Word} (h : storageOf v = storageOf w) : v = w := by
  rw [← wordOf_storageOf v, h, wordOf_storageOf]

/-- Two builder calls that return one word are one call, but for masked address bits (R122). -/
theorem canonical_eq_of_exec_eq {i j : Instr} {s : State} (hi : isBuilder i = true) (hj : isBuilder j = true)
    (h : exec i s = exec j s) : i.canonical = j.canonical := by
  rw [exec_builder hi, exec_builder hj] at h
  have hword : builderWord i = builderWord j := by
    apply storageOf_injective
    injection h with h
    injection congrArg State.result h with h
    injection h
  apply Option.some_injective
  rw [← decodeWord_builderWord hi, hword, decodeWord_builderWord hj]

/-- Settles O5: the opcode map reads every builder word back; its 472 words are counted. -/
theorem builderWordIsReadBack : Obligations.BuilderWordIsReadBack := by
  refine ⟨fun i s hi => ⟨builderWord i, exec_builder hi s, decodeWord_builderWord hi⟩, ?_, by decide +kernel⟩
  exact fun i j s hi hj => canonical_eq_of_exec_eq hi hj

/-- Settles O6: the words without a function are found by going through the map; `XMIT` sends any word. -/
theorem wordsNothingProducesAreTransmittedAllTheSame :
    Obligations.WordsNothingProducesAreTransmittedAllTheSame := by
  refine ⟨by decide +kernel, by decide +kernel, fun iw bl => sendsBytes_of_bytesOf_eq ?_⟩
  rw [wordOf_eq_setWidth]

/-- `XMIT` reads the word in its storage only (R95). -/
theorem exec_xmit_congr {iw iw' : Storage} (h : wordOf iw = wordOf iw') (bl : Bit) (s : State) :
    exec (.xmit iw bl) s = exec (.xmit iw' bl) s := by
  have hop : transmit iw bl s = transmit iw' bl s := by rw [transmit_spec, transmit_spec, h]
  simp only [exec, execXmit, whenIdle, hop]

/-- A word fits in the low ten bits of its storage (R82). -/
theorem toNat_storageOf_lt (w : Word) : (storageOf w).toNat < 1024 := by
  rw [storageOf, BitVec.toNat_setWidth]
  omega

/-- Settles O7: `XMIT` latches the word alone, and a builder's storage holds nothing above it. -/
theorem upperStorageBitsHaveNoEffect : Obligations.UpperStorageBitsHaveNoEffect := by
  refine ⟨fun iw iw' bl s h => exec_xmit_congr ?_ bl s, fun i s hi => ?_⟩
  · rw [wordOf_eq_setWidth, wordOf_eq_setWidth, h]
  · exact ⟨_, exec_builder hi s, toNat_storageOf_lt _⟩

/-- Settles O11: the two read words are constants. -/
theorem readWords : Obligations.ReadWords :=
  fun s => ⟨exec_builder (i := .iwRdata) rfl s, exec_builder (i := .iwRbusy) rfl s⟩

/-- Settles O1: by running the decoder. -/
theorem writtenOutWordsDecode : Obligations.WrittenOutWordsDecode := by
  unfold Obligations.WrittenOutWordsDecode
  decide

end Sys2Proof.Machine
end

section
/-! The output byte and its fields (R83, R84, V311): what the four bytes of a transmission share, and how the word and
the flag are read back from them. -/

namespace Sys2Proof.Machine

theorem outByte_eq_append (w : Word) (bl : Bit) (h : Half) (en : Bit) :
    outByte w bl h en = nib w h ++ bl ++ en ++ rwBit w ++ rsBit w :=
  composeByte_eq_append ..

/-- `XMIT` sends the four output bytes of R131 and R132. -/
theorem sendsBytes_outByte (w : Word) (bl : Bit) :
    SendsBytes (storageOf w) bl [outByte w bl .hi 1, outByte w bl .hi 0, outByte w bl .lo 1, outByte w bl .lo 0] := by
  apply sendsBytes_of_bytesOf_eq
  rw [wordOf_storageOf, bytesOf_eq_outByte]

/-- The shift form of R84. -/
theorem append_eq_shiftLeft (n : BitVec 4) (bl en rw rs : Bit) :
    (n ++ bl ++ en ++ rw ++ rs : Byte) =
      (n.setWidth 8 <<< 4) ||| (bl.setWidth 8 <<< 3) ||| (en.setWidth 8 <<< 2) ||| (rw.setWidth 8 <<< 1) |||
        rs.setWidth 8 := by
  revert n bl en rw rs; decide +kernel

/-- Settles O13: the byte composed line by line is the concatenation of its fields. -/
theorem outputByteFormat : Obligations.OutputByteFormat := by
  refine ⟨fun s n bl en rw rs => ⟨?_, append_eq_shiftLeft n bl en rw rs⟩, fun w bl => ?_,
    sendsBytes_of_bytesOf_eq (by decide)⟩
  · rw [← composeByte_eq_append]
    rfl
  · have h := sendsBytes_outByte w bl
    simp only [outByte_eq_append] at h
    exact h

/-! ### Reading the word back -/

/-- Backlight, read/write and register-select do not depend on the nibble and on enable (R132). -/
theorem outByte_and_control (w : Word) (bl : Bit) (h h' : Half) (en en' : Bit) :
    outByte w bl h en &&& 0x0B = outByte w bl h' en' &&& 0x0B := by
  have hall : ∀ (n : BitVec 4) (bl en rw rs : Bit),
      composeByte n bl en rw rs &&& 0x0B = composeByte 0 bl 0 rw rs := by decide +kernel
  rw [outByte, outByte, hall, hall]

/-- The nibble is the upper half of the byte (R83). -/
theorem outByte_ushiftRight (w : Word) (bl : Bit) (h : Half) (en : Bit) :
    outByte w bl h en >>> 4 = (nib w h).setWidth 8 := by
  have hall : ∀ (n : BitVec 4) (bl en rw rs : Bit), composeByte n bl en rw rs >>> 4 = n.setWidth 8 := by
    decide +kernel
  exact hall ..

theorem extractLsb'_outByte_rs (w : Word) (bl : Bit) (h : Half) (en : Bit) :
    (outByte w bl h en).extractLsb' 0 1 = rsBit w := by
  rw [outByte_eq_append, BitVec.extractLsb'_append_eq_right]

theorem extractLsb'_outByte_rw (w : Word) (bl : Bit) (h : Half) (en : Bit) :
    (outByte w bl h en).extractLsb' 1 1 = rwBit w := by
  rw [outByte_eq_append, BitVec.extractLsb'_append_eq_of_le (Nat.le_refl 1), Nat.sub_self,
    BitVec.extractLsb'_append_eq_right]

/-- A word is its two control bits and its two nibbles (R81). -/
theorem word_eq_fields (w : Word) :
    w = (rsBit w).setWidth 10 <<< 9 ||| (rwBit w).setWidth 10 <<< 8 |||
      ((nib w .hi).setWidth 8).setWidth 10 <<< 4 ||| ((nib w .lo).setWidth 8).setWidth 10 := by
  revert w; decide +kernel

/-- Settles O14: the four bytes of `XMIT` are output bytes, and each field is read off the byte that carries it. -/
theorem fourBytesGiveBackWordAndFlag : Obligations.FourBytesGiveBackWordAndFlag := by
  intro w bl
  refine ⟨_, _, _, _, sendsBytes_outByte w bl, ?_, ?_, ?_, ?_, ?_, ?_, ?_, ?_, ?_⟩
  · exact (outByte_clear_enable w bl .hi).symm
  · exact (outByte_clear_enable w bl .lo).symm
  · exact getLsbD_outByte_enable w bl .hi 1
  · exact getLsbD_outByte_enable w bl .hi 0
  · exact getLsbD_outByte_enable w bl .lo 1
  · exact getLsbD_outByte_enable w bl .lo 0
  · intro b hb
    simp only [List.mem_cons, List.not_mem_nil, or_false] at hb
    obtain rfl | rfl | rfl | rfl := hb <;> exact outByte_and_control ..
  · exact (extractLsb'_outByte_backlight w bl .hi 1).symm
  · rw [extractLsb'_outByte_rs, extractLsb'_outByte_rw, outByte_ushiftRight, outByte_ushiftRight]
    exact word_eq_fields w

end Sys2Proof.Machine
end

section
/-! What an instruction that completes can have done, said once: it returned a value, it read a stub, it refused its
operands, or it wrote its registers and then issued its plan (R110, R158, R170, R172, R194). With it, what a step can
have done (R27, R135). -/

namespace Sys2Proof.Machine

/-! ### Before the first transaction -/

/-- What an operation writes before its first transaction: the tracker in `MOVE` and `SHIFT` with legal operands
(R158), the handle in `INIT` (R172). -/
def prepared (i : Instr) (s : State) : State :=
  match i with
  | .move x y _ | .movecursor x y =>
    if inRange x y then { s with curX := x.setWidth 6, curY := y.setWidth 1 } else s
  | .shift mode dir _ => if legalDirection dir then shiftTracker mode dir s else s
  | .shiftdisplay right => shiftTracker 1 (zext8 right) s
  | .init h => { s with handle := h, handleSet := true }
  | _ => s

/-- Only the tracker and the handle are written before the first transaction, and the handle by `INIT` only. -/
theorem prepared_eq (i : Instr) (s : State) :
    ∃ x y o h v, prepared i s = { s with curX := x, curY := y, offset := o, handle := h, handleSet := v } ∧
      ((¬∃ h, i = .init h) → h = s.handle ∧ v = s.handleSet) := by
  cases i with
  | move x y bl | movecursor x y =>
    by_cases hlegal : inRange x y = true
    · exact ⟨_, _, _, _, _, if_pos hlegal, fun _ => ⟨rfl, rfl⟩⟩
    · exact ⟨_, _, _, _, _, if_neg hlegal, fun _ => ⟨rfl, rfl⟩⟩
  | shift mode dir bl =>
    by_cases hlegal : legalDirection dir = true
    · obtain ⟨x, y, o, h⟩ := shiftTracker_eq mode dir s
      exact ⟨x, y, o, _, _, (if_pos hlegal).trans h, fun _ => ⟨rfl, rfl⟩⟩
    · exact ⟨_, _, _, _, _, if_neg hlegal, fun _ => ⟨rfl, rfl⟩⟩
  | shiftdisplay right =>
    obtain ⟨x, y, o, h⟩ := shiftTracker_eq 1 (zext8 right) s
    exact ⟨x, y, o, _, _, h, fun _ => ⟨rfl, rfl⟩⟩
  | init h => exact ⟨_, _, _, h, true, rfl, fun hi => absurd ⟨h, rfl⟩ hi⟩
  | _ => exact ⟨_, _, _, _, _, rfl, fun _ => ⟨rfl, rfl⟩⟩

theorem prepared_of_not_operation {i : Instr} (hi : isOperation i = false) (s : State) : prepared i s = s := by
  cases i with
  | xmit | move | shift | rddata | rdbusy | init | clear | movecursor | showchar | showstr | shiftdisplay => cases hi
  | _ => rfl

theorem prepared_of_illegal {i : Instr} (hi : operandsLegal i = false) (s : State) : prepared i s = s := by
  cases i with
  | move x y bl | movecursor x y => exact if_neg (ne_true_of_eq_false hi)
  | shift mode dir bl =>
    rw [operandsLegal_shift] at hi
    exact if_neg (ne_true_of_eq_false hi)
  | _ => cases hi

/-! ### What an instruction that completes has done -/

/-- The instruction `i` has led from `s` to `t`, in one of four ways. -/
inductive Ran (i : Instr) (s : State) : State → Prop where
  /-- A builder function or `OB` (R84, R110). -/
  | returned (v : Value) (hop : isOperation i = false) : Ran i s (returnValue v s)
  /-- A read stub (R170, R171). -/
  | readStub (hi : i = .rddata ∨ i = .rdbusy) (hidle : s.seq = .idle) : Ran i s (stubRead s)
  /-- An operation with operands it refuses (R194). -/
  | refused (hop : isOperation i = true) (hillegal : operandsLegal i = false) (hidle : s.seq = .idle) :
      Ran i s (raise .invalidParameter s)
  /-- Any other operation: its registers, then its plan (R137, R158). -/
  | issued {t : State} (hop : isOperation i = true) (hi : i ≠ .rddata ∧ i ≠ .rdbusy) (hidle : s.seq = .idle)
      (hissues : Issues (plan i s) (prepared i s) t) : Ran i s t

theorem transmit_storageOf_issues (w : Word) (bl : Bit) (s : State) :
    Issues (xmitPlan w bl) s (transmit (storageOf w) bl s) := by
  have h := transmit_issues (storageOf w) bl s
  rwa [wordOf_storageOf] at h

theorem moveTo_issues {x y : Byte} (hlegal : inRange x y = true) (bl : Bit) (s : State) :
    Issues (plan (.move x y bl) s) (prepared (.move x y bl) s) (moveTo x y bl s) := by
  rw [moveTo_of_inRange hlegal, prepared, if_pos hlegal]
  exact transmit_storageOf_issues ..

theorem shiftBy_issues {dir : Byte} (hlegal : legalDirection dir = true) (mode bl : Bit) (s : State) :
    Issues (plan (.shift mode dir bl) s) (prepared (.shift mode dir bl) s) (shiftBy mode dir bl s) := by
  rw [shiftBy, prepared, if_pos hlegal, if_pos hlegal, wordShift_of_legal hlegal]
  exact transmit_storageOf_issues ..

/-- The operand of `SHIFTDISPLAY` is one bit, so its direction is always legal (R181). -/
theorem legalDirection_zext8 (right : Bit) : legalDirection (zext8 right) = true := by
  revert right; decide

/-- `SHIFTDISPLAY` has the plan of the display shift it stands for (R181). -/
theorem plan_shiftdisplay (right : Bit) (s : State) :
    plan (.shift 1 (zext8 right) s.cfg.facadeBl) s = plan (.shiftdisplay right) s := by
  obtain rfl | rfl := BitVec.eq_zero_or_eq_one right
  · rfl
  · rfl

theorem shiftdisplay_issues (right : Bit) (s : State) :
    Issues (plan (.shiftdisplay right) s) (prepared (.shiftdisplay right) s)
      (shiftBy 1 (zext8 right) s.cfg.facadeBl s) := by
  have h := shiftBy_issues (legalDirection_zext8 right) 1 s.cfg.facadeBl s
  rw [plan_shiftdisplay, prepared, if_pos (legalDirection_zext8 right)] at h
  exact h

theorem issues_of_legal {i : Instr} {s t : State} (hop : isOperation i = true) (hlegal : operandsLegal i = true)
    (hi : i ≠ .rddata ∧ i ≠ .rdbusy) (h : exec i s = .next t) : Issues (plan i s) (prepared i s) t := by
  cases i with
  | xmit iw bl =>
    obtain ⟨-, rfl⟩ := whenIdle_next_iff.mp h
    have hissues := transmit_issues iw bl s
    rw [wordOf_eq_setWidth] at hissues
    exact hissues
  | move x y bl =>
    obtain ⟨-, rfl⟩ := whenIdle_next_iff.mp h
    exact moveTo_issues hlegal bl s
  | movecursor x y =>
    obtain ⟨-, -, rfl⟩ := whenInitialised_next_iff.mp h
    exact moveTo_issues hlegal s.cfg.facadeBl s
  | shift mode dir bl =>
    obtain ⟨-, rfl⟩ := whenIdle_next_iff.mp h
    rw [operandsLegal_shift] at hlegal
    exact shiftBy_issues hlegal mode bl s
  | shiftdisplay right =>
    obtain ⟨-, -, rfl⟩ := whenInitialised_next_iff.mp h
    exact shiftdisplay_issues right s
  | init hd =>
    obtain ⟨-, rfl⟩ := whenIdle_next_iff.mp h
    exact initialiseDevice_issues hd s
  | clear | showchar c =>
    obtain ⟨-, -, rfl⟩ := whenInitialised_next_iff.mp h
    exact transmit_storageOf_issues ..
  | showstr cs =>
    obtain ⟨-, -, rfl⟩ := whenInitialised_next_iff.mp h
    exact sendString_issues ..
  | rddata | rdbusy => simp at hi
  | _ => cases hop

theorem ran_of_exec_next {i : Instr} {s t : State} (h : exec i s = .next t) : Ran i s t := by
  cases hop : isOperation i
  case false =>
    obtain ⟨v, hv⟩ := exec_eq_returnValue hop s
    cases hv.symm.trans h
    exact .returned v hop
  case true =>
    have haccepts := accepts_of_exec_next hop h
    have hidle : s.seq = .idle := haccepts.1
    cases hlegal : operandsLegal i
    case false =>
      cases (exec_of_illegal haccepts hlegal).symm.trans h
      exact .refused hop hlegal hidle
    case true =>
      by_cases hi : i = .rddata ∨ i = .rdbusy
      · have hstub : exec i s = .next (stubRead s) := by
          obtain rfl | rfl := hi <;> exact whenIdle_of_idle _ hidle
        cases hstub.symm.trans h
        exact .readStub hi hidle
      · rw [not_or] at hi
        exact .issued hop hi hidle (issues_of_legal hop hlegal hi h)

/-- What an operation that completes leaves for the host to see is what its plan says. -/
theorem reportsPlan_of_exec_next {i : Instr} {s t : State} (hop : isOperation i = true) (h : exec i s = .next t) :
    ReportsPlan i s t := by
  obtain ⟨t', ht', hreports⟩ := operationsIssueTheirPlan i s hop (accepts_of_exec_next hop h)
  cases ht'.symm.trans h
  exact hreports

/-- An instruction that completes leaves `SEQ` at `IDLE` when it finds it there (R27, R196). -/
theorem exec_seq {i : Instr} {s t : State} (hidle : s.seq = .idle) (h : exec i s = .next t) : t.seq = .idle := by
  cases hop : isOperation i
  case false =>
    obtain ⟨v, hv⟩ := exec_eq_returnValue hop s
    cases hv.symm.trans h
    exact hidle
  case true =>
    obtain ⟨-, -, -, hseq⟩ := reportsPlan_of_exec_next hop h
    exact hseq

/-! ### Steps -/

/-- During a transmission a step is one transition of the sequencer (log 9). -/
theorem step_of_busy {s : State} (hbusy : s.seq ≠ .idle) : step s = .next (seqAdvance s) :=
  if_neg hbusy

/-- Between operations with no request pending a step changes nothing (log 3). -/
theorem step_of_no_request {s : State} (hidle : s.seq = .idle) (hnone : s.requests = []) : step s = .next s := by
  rw [step, if_pos hidle, hnone]

/-- A step that completes is a transition of the sequencer, or nothing, or the instruction of the next request. -/
theorem step_next_cases {s t : State} (h : step s = .next t) :
    (s.seq ≠ .idle ∧ t = seqAdvance s) ∨ t = s ∨
      ∃ i rest, s.seq = .idle ∧ exec i { s with requests := rest } = .next t := by
  unfold step at h
  split at h
  next hidle =>
    split at h
    next => cases h; exact .inr (.inl rfl)
    next r rest hreq =>
      split at h
      next i hdec => exact .inr (.inr ⟨i, rest, hidle, h⟩)
      next => cases h
  next hbusy => cases h; exact .inl ⟨hbusy, rfl⟩

/-- Settles O50: the instruction a step runs keeps `SEQ` at `IDLE`. -/
theorem sequencerRestsBetweenOperations : Obligations.SequencerRestsBetweenOperations := by
  intro s t hidle h
  obtain ⟨hbusy, -⟩ | rfl | ⟨i, rest, -, hexec⟩ := step_next_cases h
  · exact absurd hidle hbusy
  · exact hidle
  · exact exec_seq (s := { s with requests := rest }) hidle hexec

/-- Settles O51: each clause is one branch of `step`. -/
theorem stepRunsTheNextRequest : Obligations.StepRunsTheNextRequest := by
  refine ⟨fun s r rest i hidle hreq hdec => ?_, fun s r rest e hidle hreq hdec => ?_,
    fun s => step_of_no_request, fun s => step_of_busy, fun s nbits w i hw => ?_⟩
  · simp only [step, hidle, hreq, hdec, if_true]
  · simp only [step, hidle, hreq, hdec, if_true]
  · unfold decodeTableWord at hw
    split at hw
    next j hdec =>
      cases hw
      simp only [step, State.withFetchWord, hdec, if_true]
    next => cases hw

/-- Settles O43: the port's condition comes before everything else (U2). -/
theorem secondOperationIsRefused : Obligations.SecondOperationIsRefused := by
  intro i s hop hbusy
  cases i with
  | xmit | move | shift | rddata | rdbusy | init | clear | movecursor | showchar | showstr | shiftdisplay =>
    exact if_neg hbusy
  | _ => cases hop

/-- Settles O42: between operations the condition on the handle comes next (U3). -/
theorem facadeBeforeInitIsRefused : Obligations.FacadeBeforeInitIsRefused := by
  intro i s hi hidle hset
  cases i with
  | clear | movecursor | showchar | showstr | shiftdisplay =>
    exact (if_pos hidle).trans (if_neg (ne_true_of_eq_false hset))
  | _ => cases hi

/-- Settles O36: the stubs draw a value and touch nothing else. -/
theorem readStubsReportSuccess : Obligations.ReadStubsReportSuccess := by
  intro i s hi hidle
  refine ⟨Config.freeRead s.draws, s.draws + 1, ?_⟩
  obtain rfl | rfl := hi <;> exact whenIdle_of_idle _ hidle

/-! ### Reset -/

/-- Settles O52: each value is a field of `State.reset`. -/
theorem resetState : Obligations.ResetState :=
  ⟨rfl, rfl, rfl, rfl, rfl, rfl, rfl⟩

/-- Settles O53: at reset the registers are zero and the sequencer rests. -/
theorem resetMeetsTheInvariants : Obligations.ResetMeetsTheInvariants :=
  ⟨⟨Nat.zero_le _, Nat.zero_le _⟩, ⟨nofun, nofun⟩, rfl⟩

end Sys2Proof.Machine
end

section
/-! The transport and the transmitter (R51, R52, R130, R135, R141): what the two primitives do, what `XMIT` keeps, and
that one operation is its transitions in a row. -/

namespace Sys2Proof.Machine

/-! ### The primitives -/

theorem probeAnswer_eq_ready_iff {r : Config.Reply} : probeAnswer r = .ready ↔ r = .good := by
  cases r <;> simp [probeAnswer]

theorem writeAnswer_eq_done_iff {r : Config.Reply} : writeAnswer r = .done ↔ r = .good := by
  cases r <;> simp [writeAnswer]

theorem answerAt_busProbe (s : State) (k : Nat) : (busProbe s).2.answerAt k = s.answerAt (k + 1) := by
  rw [Nat.add_comm]
  exact answerAt_of_consumed k rfl rfl

theorem answerAt_busWrite (b : Byte) (s : State) (k : Nat) : (busWrite b s).2.answerAt k = s.answerAt (k + 1) := by
  rw [Nat.add_comm]
  exact answerAt_of_consumed k rfl rfl

/-- A write sets `EXP` to its byte on `DONE` (R32, R52). -/
theorem busWrite_exp_of_done {b : Byte} {s : State} (h : (busWrite b s).1 = .done) : (busWrite b s).2.exp = b :=
  congrArg (latchAfter b · s.exp) h

/-- A write answered `FAIL` leaves `EXP` (R52). -/
theorem busWrite_exp_of_fail {b : Byte} {s : State} (h : (busWrite b s).1 = .fail) : (busWrite b s).2.exp = s.exp :=
  congrArg (latchAfter b · s.exp) h

/-- Settles O54: each clause is a field of what the primitive leaves. -/
theorem busPrimitives : Obligations.BusPrimitives := by
  intro s b
  refine ⟨probeAnswer_eq_ready_iff, rfl, rfl, writeAnswer_eq_done_iff, busWrite_exp_of_done, busWrite_exp_of_fail, rfl,
    ?_⟩
  rintro t (rfl | rfl)
  · refine ⟨answerAt_busProbe s, ?_⟩
    simp [busProbe_spec, trackerOf]
  · refine ⟨answerAt_busWrite b s, ?_⟩
    simp [busWrite_spec, trackerOf]

/-! ### What `XMIT` keeps -/

@[simp] theorem transmit_iwr (iw : Storage) (bl : Bit) (s : State) : (transmit iw bl s).iwr = wordOf iw := by
  rw [transmit_spec]

@[simp] theorem transmit_blr (iw : Storage) (bl : Bit) (s : State) : (transmit iw bl s).blr = bl := by
  rw [transmit_spec]

/-- Settles O16: `XMIT` latches its operands and issues its plan, and the rest is as it was. -/
theorem xmitFrame : Obligations.XmitFrame := by
  intro s t iw bl h
  obtain ⟨hidle, rfl⟩ := whenIdle_next_iff.mp h
  have hsent := transmit_issues iw bl s
  obtain ⟨cs, hcalls, -⟩ := hsent.calls
  refine ⟨hsent.curX, hsent.curY, hsent.offset, hsent.handle, hsent.handleSet, hsent.cfg, hsent.result, hsent.requests,
    hsent.seq hidle, ?_, transmit_blr iw bl s, ?_, ?_⟩
  · rw [transmit_iwr, wordOf_eq_setWidth]
  · rw [hsent.trace]
    exact List.prefix_append ..
  · rw [hcalls]
    exact List.prefix_append ..

/-! ### The transitions of the sequencer -/

/-- One row of R135 that writes `b`: the state goes on to `q` with the status `st` when the write is answered `DONE`,
and the operation ends with `BusWriteFailure` when it is not. -/
def WriteRow (s : State) (b : Byte) (q : Seq) (st : Option Status) : Prop :=
  ∃ t, step s = .next t ∧
    (s.answerAt 0 = .good → t.seq = q ∧ t.status = st ∧ t.trace = s.trace ++ [.write b .done]) ∧
    (s.answerAt 0 = .bad →
      t.seq = .idle ∧ t.status = some .busWriteFailure ∧ t.trace = s.trace ++ [.write b .fail])

/-- A transition that presents `b` is the row of `b`, with what the continuation makes of `SEQ` and the status. -/
theorem writeRow_of_present {s : State} {b : Byte} {q : Seq} {st : Option Status} {k : State → State}
    (hbusy : s.seq ≠ .idle) (hpresent : seqAdvance s = present b k s) (hseq : ∀ t, (k t).seq = q)
    (hstatus : ∀ t : State, t.status = s.status → (k t).status = st) (htrace : ∀ t, (k t).trace = t.trace) :
    WriteRow s b q st := by
  refine ⟨_, step_of_busy hbusy, fun hgood => ?_, fun hbad => ?_⟩
  · rw [hpresent, present_eq, hgood]
    exact ⟨hseq _, hstatus _ rfl, htrace _⟩
  · rw [hpresent, present_eq, hbad]
    exact ⟨rfl, rfl, rfl⟩

theorem writeRow_hnHi {s : State} (hseq : s.seq = .hnHi) :
    WriteRow s (outByte s.iwr s.blr .hi 1) .hnLo s.status :=
  writeRow_of_present (k := goto .hnLo) (by simp [hseq]) (by simp only [seqAdvance, hseq]) (fun _ => rfl)
    (fun _ h => h) (fun _ => rfl)

theorem writeRow_hnLo {s : State} (hlatches : LatchesConsistent s) (hseq : s.seq = .hnLo) :
    WriteRow s (outByte s.iwr s.blr .hi 0) .lnHi s.status :=
  writeRow_of_present (k := goto .lnHi) (by simp [hseq])
    (by simp only [seqAdvance, hseq, hlatches.1 hseq, outByte_clear_enable]) (fun _ => rfl) (fun _ h => h)
    (fun _ => rfl)

theorem writeRow_lnHi {s : State} (hseq : s.seq = .lnHi) :
    WriteRow s (outByte s.iwr s.blr .lo 1) .lnLo s.status :=
  writeRow_of_present (k := goto .lnLo) (by simp [hseq]) (by simp only [seqAdvance, hseq]) (fun _ => rfl)
    (fun _ h => h) (fun _ => rfl)

theorem writeRow_lnLo {s : State} (hlatches : LatchesConsistent s) (hseq : s.seq = .lnLo) :
    WriteRow s (outByte s.iwr s.blr .lo 0) .idle (some .ok) :=
  writeRow_of_present (k := fun t => returnOk (goto .idle t)) (by simp [hseq])
    (by simp only [seqAdvance, hseq, hlatches.2 hseq, outByte_clear_enable]) (fun _ => rfl) (fun _ _ => rfl)
    (fun _ => rfl)

/-- The row of the probe (R135, R136). -/
theorem step_probe {s : State} (hseq : s.seq = .probe) : ∃ t, step s = .next t ∧
    (s.answerAt 0 = .good → t.seq = .hnHi ∧ t.status = s.status ∧ t.trace = s.trace ++ [.probe .ready]) ∧
    (s.answerAt 0 = .bad →
      t.seq = .idle ∧ t.status = some .busNotReady ∧ t.trace = s.trace ++ [.probe .notReady]) := by
  refine ⟨_, step_of_busy (by simp [hseq]), fun hgood => ?_, fun hbad => ?_⟩
  · rw [seqAdvance_probe hseq, hgood]
    exact ⟨rfl, rfl, rfl⟩
  · rw [seqAdvance_probe hseq, hbad]
    exact ⟨rfl, rfl, rfl⟩

/-- Settles O17: the rows of R135 one by one; the two that clear enable read `OBR`, which the latches determine. -/
theorem sequencerTransitions : Obligations.SequencerTransitions := by
  refine ⟨fun s iw bl => ⟨rfl, wordOf_eq_setWidth iw, rfl, rfl⟩, fun s => step_probe, ?_⟩
  intro s b2 b3 b4 b5 hlatches hbytes q q' b st hrow hseq
  rw [bytesOf_eq_outByte] at hbytes
  cases hbytes
  simp only [List.mem_cons, Prod.mk.injEq, List.not_mem_nil, or_false] at hrow
  obtain ⟨rfl, rfl, rfl, rfl⟩ | ⟨rfl, rfl, rfl, rfl⟩ | ⟨rfl, rfl, rfl, rfl⟩ | ⟨rfl, rfl, rfl, rfl⟩ := hrow
  · exact writeRow_hnHi hseq
  · exact writeRow_hnLo hlatches hseq
  · exact writeRow_lnHi hseq
  · exact writeRow_lnLo hlatches hseq

/-- Settles O19: a transition sets `OBR` to the byte of the row it leads to, and every other step that does something
ends with the sequencer at rest. -/
theorem latchesStayConsistent : Obligations.LatchesStayConsistent := by
  intro s t hlatches h
  obtain ⟨hbusy, rfl⟩ | rfl | ⟨i, rest, hidle, hexec⟩ := step_next_cases h
  · obtain ⟨e, q, o, st, heq, hhi, hlo⟩ := seqAdvance_spec hbusy
    rw [heq]
    exact ⟨hhi, hlo⟩
  · exact hlatches
  · have hrest : t.seq = .idle := exec_seq (s := { s with requests := rest }) hidle hexec
    rw [LatchesConsistent, hrest]
    exact ⟨nofun, nofun⟩

/-! ### One operation and its transitions -/

theorem seqAdvance_of_idle {s : State} (hidle : s.seq = .idle) : seqAdvance s = s :=
  runSequencer_idle 1 hidle

@[simp] theorem seqAdvance_requests (s : State) : (seqAdvance s).requests = s.requests := by
  by_cases hidle : s.seq = .idle
  · rw [seqAdvance_of_idle hidle]
  · obtain ⟨e, q, o, st, heq, -, -⟩ := seqAdvance_spec hidle
    rw [heq]
    rfl

/-- With no request pending every step is a transition of the sequencer, which makes none at rest. -/
theorem step_eq_seqAdvance {s : State} (hnone : s.requests = []) : step s = .next (seqAdvance s) := by
  by_cases hidle : s.seq = .idle
  · rw [seqAdvance_of_idle hidle, step_of_no_request hidle hnone]
  · exact step_of_busy hidle

theorem run_succ_of_step {M : Host.Core} {s t : M.State} (n : Nat) (h : M.step s = .next t) :
    M.run (n + 1) s = M.run n t := by
  simp only [Host.Core.run, h]

theorem run_eq_runSequencer (n : Nat) {s : State} (hnone : s.requests = []) :
    Host.Core.run Sys2Proof.core n s = .next (runSequencer n s) := by
  induction n generalizing s with
  | zero => rfl
  | succ n ih =>
    have hnone' : (seqAdvance s).requests = [] := by rw [seqAdvance_requests, hnone]
    exact (run_succ_of_step (M := Sys2Proof.core) n (step_eq_seqAdvance hnone)).trans (ih hnone')

/-- Settles O18: `XMIT` is five transitions of the sequencer, and so are five steps. -/
theorem xmitIsFiveTransitions : Obligations.XmitIsFiveTransitions := by
  intro s iw bl hidle hnone
  have hexec : exec (.xmit iw bl) s = .next (runSequencer 5 (startXmit iw bl s)) := whenIdle_of_idle _ hidle
  rw [hexec]
  exact run_eq_runSequencer 5 (s := startXmit iw bl s) hnone

/-! ### What `XMIT` depends on -/

/-- Issuing a plan asks for one answer a transaction at most. -/
theorem issue_congr {ans ans' : Nat → Config.Reply} {ts : List Txn} {k : Nat}
    (h : ∀ j, j < k + ts.length → ans j = ans' j) :
    issue ans k ts = issue ans' k ts ∧ issueStatus ans k ts = issueStatus ans' k ts := by
  induction ts generalizing k with
  | nil => exact ⟨rfl, rfl⟩
  | cons a ts ih =>
    have hk : ans k = ans' k := h k (by simp)
    obtain ⟨hissue, hstatus⟩ := ih (k := k + 1) fun j hj => h j (by rw [List.length_cons]; omega)
    cases a with
    | probe | write => simp only [issue, issueStatus, hk, hissue, hstatus, and_self]

/-- Once a write has been answered `DONE`, the old content of the latch is gone (R32). -/
theorem latchOf_eq_of_done_mem {evs : List BusEvent} {b : Byte} (hdone : .write b .done ∈ evs) (e e' : Byte) :
    latchOf evs e = latchOf evs e' := by
  obtain ⟨before, after, rfl⟩ := List.append_of_mem hdone
  rw [latchOf_append, latchOf_append]
  rfl

/-- Settles O20: the plan is that of the operands, and issuing it asks the transport only. -/
theorem xmitDependsOnlyOnOperandsAndAnswers : Obligations.XmitDependsOnlyOnOperandsAndAnswers := by
  intro s s' iw iw' bl hidle hidle' hword hanswers
  rw [← wordOf_eq_setWidth, ← wordOf_eq_setWidth] at hword
  have hsent := transmit_issues iw bl s
  have hsent' := transmit_issues iw' bl s'
  obtain ⟨hissue, hstatus⟩ := issue_congr (ts := xmitPlan (wordOf iw) bl) (k := 0) hanswers
  rw [← hword] at hsent'
  refine ⟨_, _, issue s.answerAt 0 (xmitPlan (wordOf iw) bl), whenIdle_of_idle _ hidle, whenIdle_of_idle _ hidle',
    hsent.trace, ?_, ?_, ?_⟩
  · rw [hsent'.trace, hissue]
  · rw [hsent.status, hsent'.status, hstatus]
  · rw [hsent.exp, hsent'.exp, ← hissue]
    rintro (hexp | hgood)
    · rw [hexp]
    · obtain ⟨b, hdone⟩ := exists_done_mem_of_allGood hgood (wordOf iw) bl
      exact latchOf_eq_of_done_mem hdone s.exp s'.exp

end Sys2Proof.Machine
end

section
/-! The tracker over whole instructions and runs (R24, R153 to R163, R176): an instruction that completes leaves the
tracker it has prepared before its first transaction, so nothing the transport answers counts for it. -/

namespace Sys2Proof.Machine

/-! ### The tracker after an instruction -/

theorem Issues.trackerOf {ts : List Txn} {s t : State} (h : Issues ts s t) : trackerOf t = trackerOf s :=
  trackerOf_eq_iff.mpr ⟨h.curX, h.curY, h.offset⟩

/-- What an instruction leaves in the tracker was written before its first transaction (R158). -/
theorem trackerOf_of_exec_next {i : Instr} {s t : State} (h : exec i s = .next t) :
    trackerOf t = trackerOf (prepared i s) := by
  cases ran_of_exec_next h with
  | returned v hop => rw [prepared_of_not_operation hop]; rfl
  | readStub hi hidle => obtain rfl | rfl := hi <;> rfl
  | refused hop hillegal hidle => rw [prepared_of_illegal hillegal]; rfl
  | issued hop hi hidle hissues => exact hissues.trackerOf

theorem trackerOf_shiftTracker_congr {s s' : State} (h : trackerOf s = trackerOf s') (mode : Bit) (dir : Byte) :
    trackerOf (shiftTracker mode dir s) = trackerOf (shiftTracker mode dir s') := by
  obtain ⟨hx, hy, ho⟩ := trackerOf_eq_iff.mp h
  unfold shiftTracker offsetRight offsetLeft cursorRight cursorLeft
  rw [hx, hy, ho]
  split_ifs <;> rfl

/-- The tracker's update reads the tracker alone. -/
theorem trackerOf_prepared_congr {s s' : State} (h : trackerOf s = trackerOf s') (i : Instr) :
    trackerOf (prepared i s) = trackerOf (prepared i s') := by
  obtain ⟨-, -, ho⟩ := trackerOf_eq_iff.mp h
  cases i with
  | move x y bl | movecursor x y =>
    dsimp only [prepared]
    split
    · exact Prod.ext rfl (Prod.ext rfl ho)
    · exact h
  | shift mode dir bl =>
    dsimp only [prepared]
    split
    · exact trackerOf_shiftTracker_congr h mode dir
    · exact h
  | shiftdisplay right => exact trackerOf_shiftTracker_congr h 1 (zext8 right)
  | _ => exact h

/-- Settles O30: what is left in the tracker is a function of what was in it. -/
theorem trackerIgnoresTheTransport : Obligations.TrackerIgnoresTheTransport := by
  intro i s s' t t' h ht ht'
  rw [trackerOf_of_exec_next ht, trackerOf_of_exec_next ht', trackerOf_prepared_congr h i]

/-- Settles O32: `INIT`, `CLEAR` and the writes prepare nothing in the tracker, `MOVECURSOR` the cursor only and
`SHIFTDISPLAY` the offset only. -/
theorem facadeTrackerFrame : Obligations.FacadeTrackerFrame := by
  refine ⟨fun i s t hi h => ?_, fun s t x y h => ?_, fun s t right h => ?_⟩
  · rw [trackerOf_of_exec_next h]
    obtain ⟨hd, rfl⟩ | rfl | ⟨c, rfl⟩ | ⟨cs, rfl⟩ := hi <;> rfl
  · obtain ⟨-, -, rfl⟩ := whenInitialised_next_iff.mp h
    exact moveTo_offset x y _ s
  · obtain ⟨hx, hy, -⟩ := trackerOf_eq_iff.mp (trackerOf_of_exec_next h)
    exact ⟨hx.trans (shiftTracker_display_curX (zext8 right) s), hy.trans (shiftTracker_display_curY (zext8 right) s)⟩

/-! ### The range of the tracker -/

/-- The remainders of R153 and R154 fit in the register. -/
theorem toNat_ofNat_mod_forty (n : Nat) : (BitVec.ofNat 6 (n % 40)).toNat = n % 40 := by
  rw [BitVec.toNat_ofNat]
  omega

theorem cursorRight_curX_le {s : State} (h : s.curX.toNat ≤ 39) : (cursorRight s).curX.toNat ≤ 39 := by
  obtain hlt | hlast := Nat.lt_or_eq_of_le h
  · rw [(cursorRight_of_lt hlt).1]
    exact hlt
  · rw [(cursorRight_of_last hlast).1]
    exact Nat.zero_le _

theorem cursorLeft_curX_le {s : State} (h : s.curX.toNat ≤ 39) : (cursorLeft s).curX.toNat ≤ 39 := by
  obtain hfirst | hpos := Nat.eq_zero_or_pos s.curX.toNat
  · rw [(cursorLeft_of_first hfirst).1]
  · rw [(cursorLeft_of_pos hpos).1]
    omega

theorem trackerInRange_shiftTracker {s : State} (h : TrackerInRange s) (mode : Bit) (dir : Byte) :
    TrackerInRange (shiftTracker mode dir s) := by
  obtain ⟨hx, ho⟩ := h
  unfold shiftTracker
  split_ifs
  · rw [TrackerInRange, offsetRight_offset, toNat_ofNat_mod_forty]
    exact ⟨hx, by omega⟩
  · rw [TrackerInRange, offsetLeft_offset, toNat_ofNat_mod_forty]
    exact ⟨hx, by omega⟩
  · exact ⟨cursorRight_curX_le hx, by rwa [cursorRight_offset]⟩
  · exact ⟨cursorLeft_curX_le hx, by rwa [cursorLeft_offset]⟩

/-- A legal column fits in `CUR_X` and is at most 39 (R150, R151). -/
theorem toNat_setWidth_le_of_inRange {x y : Byte} (h : inRange x y = true) : (x.setWidth 6).toNat ≤ 39 := by
  obtain ⟨hx, hx', -, -⟩ := inRange_iff.mp h
  have hcol : ((x.setWidth 6).toNat : Int) = x.toInt := toNat_setWidth_of_toInt hx (by omega)
  omega

theorem trackerInRange_prepared {s : State} (h : TrackerInRange s) (i : Instr) : TrackerInRange (prepared i s) := by
  cases i with
  | move x y bl | movecursor x y =>
    dsimp only [prepared]
    split
    next hlegal => exact ⟨toNat_setWidth_le_of_inRange hlegal, h.2⟩
    next => exact h
  | shift mode dir bl =>
    dsimp only [prepared]
    split
    · exact trackerInRange_shiftTracker h mode dir
    · exact h
  | shiftdisplay right => exact trackerInRange_shiftTracker h 1 (zext8 right)
  | _ => exact h

theorem trackerInRange_congr {s t : State} (h : trackerOf t = trackerOf s) : TrackerInRange t ↔ TrackerInRange s := by
  obtain ⟨hx, -, ho⟩ := trackerOf_eq_iff.mp h
  rw [TrackerInRange, TrackerInRange, hx, ho]

theorem trackerOf_seqAdvance (s : State) : trackerOf (seqAdvance s) = trackerOf s := by
  by_cases hidle : s.seq = .idle
  · rw [seqAdvance_of_idle hidle]
  · obtain ⟨e, q, o, st, heq, -, -⟩ := seqAdvance_spec hidle
    rw [heq]
    rfl

/-- Settles O35: a transition of the sequencer leaves the tracker, and what an instruction prepares stays in range. -/
theorem stepKeepsTheTrackerInRange : Obligations.StepKeepsTheTrackerInRange := by
  refine ⟨fun s t hrange h => ?_, fun s => BitVec.eq_zero_or_eq_one s.curY⟩
  obtain ⟨-, rfl⟩ | rfl | ⟨i, rest, -, hexec⟩ := step_next_cases h
  · exact (trackerInRange_congr (trackerOf_seqAdvance s)).mpr hrange
  · exact hrange
  · rw [trackerInRange_congr (trackerOf_of_exec_next hexec)]
    exact trackerInRange_prepared (s := { s with requests := rest }) hrange i

/-! ### Single shifts -/

/-- Between operations a legal `SHIFT` completes, rests, and leaves its tracker update (R157, R158). -/
theorem exec_shift_tracker {s : State} (hidle : s.seq = .idle) {dir : Byte} (hlegal : legalDirection dir = true)
    (mode bl : Bit) :
    ∃ t, exec (.shift mode dir bl) s = .next t ∧ t.seq = .idle ∧ trackerOf t = trackerOf (shiftTracker mode dir s) :=
  have hexec : exec (.shift mode dir bl) s = .next (shiftBy mode dir bl s) := whenIdle_of_idle _ hidle
  ⟨_, hexec, exec_seq hidle hexec, trackerOf_shiftBy_of_legal hlegal mode bl s⟩

/-- A shift in direction `dir` adds `c` in a cycle of `m` positions: one forward to the right, one back to the left
(R153 to R156). -/
def ShiftAmount (m : Nat) (dir : Byte) (c : Nat) : Prop := dir = 1 ∧ c = 1 ∨ dir = 0 ∧ c = m - 1

theorem shiftAmount_right (m : Nat) : ShiftAmount m 1 1 := .inl ⟨rfl, rfl⟩

theorem shiftAmount_left (m : Nat) : ShiftAmount m 0 (m - 1) := .inr ⟨rfl, rfl⟩

/-- A display shift adds `c` to `OFFSET` modulo 40, 1 to the right and 39 to the left (R153, R154). -/
theorem exec_displayShift {s : State} (hidle : s.seq = .idle) {dir : Byte} {c : Nat}
    (hdir : ShiftAmount 40 dir c) (bl : Bit) :
    ∃ t, exec (.shift 1 dir bl) s = .next t ∧ t.seq = .idle ∧ t.offset.toNat = (s.offset.toNat + c) % 40 ∧
      t.curX = s.curX ∧ t.curY = s.curY := by
  obtain ⟨rfl, rfl⟩ | ⟨rfl, rfl⟩ := hdir
  · obtain ⟨t, hexec, hrest, htracker⟩ := exec_shift_tracker hidle (dir := 1) rfl 1 bl
    obtain ⟨hx, hy, ho⟩ := trackerOf_eq_iff.mp htracker
    exact ⟨t, hexec, hrest, by rw [ho]; exact toNat_ofNat_mod_forty _, hx, hy⟩
  · obtain ⟨t, hexec, hrest, htracker⟩ := exec_shift_tracker hidle (dir := 0) rfl 1 bl
    obtain ⟨hx, hy, ho⟩ := trackerOf_eq_iff.mp htracker
    exact ⟨t, hexec, hrest, by rw [ho]; exact toNat_ofNat_mod_forty _, hx, hy⟩

/-- Settles O26: the two display shifts. -/
theorem displayShiftMovesTheOffset : Obligations.DisplayShiftMovesTheOffset := by
  intro s bl hidle
  obtain ⟨t, hexec, -, hright⟩ := exec_displayShift hidle (shiftAmount_right 40) bl
  obtain ⟨u, hexec', -, hleft⟩ := exec_displayShift hidle (shiftAmount_left 40) bl
  exact ⟨⟨t, hexec, hright⟩, ⟨u, hexec', hleft⟩⟩

/-- Settles O28: a direction above 1 is raised, and a legal one is kept whole in the word of the plan. -/
theorem shiftChecksItsDirectionAndSendsItsWord : Obligations.ShiftChecksItsDirectionAndSendsItsWord := by
  intro s mode dir bl hidle
  refine ⟨fun hdir => ?_, fun hdir hgood => ?_⟩
  · have hillegal : operandsLegal (.shift mode dir bl) = false := decide_eq_false (by omega)
    have haccepts : Accepts (.shift mode dir bl) s := ⟨hidle, nofun⟩
    rw [exec_of_illegal haccepts hillegal, raise_of_idle hidle]
  · exact endsWith_of_plan_eq_xmitPlan (whenIdle_of_idle _ hidle) (shiftBy_reports hidle mode dir bl)
      (decide_eq_true hdir) rfl hgood

/-- The cursor's number steps on by 1 modulo 80 to the right (R155, R163). -/
theorem cursorIndex_cursorRight {s : State} (h : s.curX.toNat ≤ 39) :
    cursorIndex (cursorRight s) = (cursorIndex s + 1) % 80 := by
  have hrow := s.curY.isLt
  rw [cursorIndex, cursorIndex]
  obtain hlt | hlast := Nat.lt_or_eq_of_le h
  · obtain ⟨hx, hy⟩ := cursorRight_of_lt hlt
    rw [hx, hy]
    omega
  · obtain ⟨hx, hy⟩ := cursorRight_of_last hlast
    rw [hx, hy]
    omega

/-- The cursor's number steps back by 1 modulo 80 to the left (R156, R163). -/
theorem cursorIndex_cursorLeft {s : State} (h : s.curX.toNat ≤ 39) :
    cursorIndex (cursorLeft s) = (cursorIndex s + 79) % 80 := by
  have hrow := s.curY.isLt
  rw [cursorIndex, cursorIndex]
  obtain hfirst | hpos := Nat.eq_zero_or_pos s.curX.toNat
  · obtain ⟨hx, hy⟩ := cursorLeft_of_first hfirst
    rw [hx, hy]
    omega
  · obtain ⟨hx, hy⟩ := cursorLeft_of_pos hpos
    rw [hx, hy]
    omega

theorem cursorIndex_congr {s t : State} (hx : t.curX = s.curX) (hy : t.curY = s.curY) :
    cursorIndex t = cursorIndex s := by
  rw [cursorIndex, cursorIndex, hx, hy]

/-- A cursor shift moves the cursor by `c` in the cycle of 80 positions, 1 to the right and 79 to the left (R163). -/
theorem exec_cursorShift {s : State} (hidle : s.seq = .idle) (hcol : s.curX.toNat ≤ 39) {dir : Byte} {c : Nat}
    (hdir : ShiftAmount 80 dir c) (bl : Bit) :
    ∃ t, exec (.shift 0 dir bl) s = .next t ∧ t.seq = .idle ∧ cursorIndex t = (cursorIndex s + c) % 80 ∧
      t.curX.toNat ≤ 39 ∧ t.offset = s.offset := by
  obtain ⟨rfl, rfl⟩ | ⟨rfl, rfl⟩ := hdir
  · obtain ⟨t, hexec, hrest, htracker⟩ := exec_shift_tracker hidle (dir := 1) rfl 0 bl
    obtain ⟨hx, hy, ho⟩ := trackerOf_eq_iff.mp htracker
    exact ⟨t, hexec, hrest, (cursorIndex_congr hx hy).trans (cursorIndex_cursorRight hcol),
      by rw [hx]; exact cursorRight_curX_le hcol, ho.trans (cursorRight_offset s)⟩
  · obtain ⟨t, hexec, hrest, htracker⟩ := exec_shift_tracker hidle (dir := 0) rfl 0 bl
    obtain ⟨hx, hy, ho⟩ := trackerOf_eq_iff.mp htracker
    exact ⟨t, hexec, hrest, (cursorIndex_congr hx hy).trans (cursorIndex_cursorLeft hcol),
      by rw [hx]; exact cursorLeft_curX_le hcol, ho.trans (cursorLeft_offset s)⟩

/-! ### Repeated shifts -/

/-- An instruction that keeps an invariant and adds `c` to a measure modulo `m` can be run any number of times. -/
theorem execTimes_of_step {i : Instr} {P : State → Prop} {f : State → Nat} {c m : Nat}
    (hstep : ∀ s, P s → ∃ t, exec i s = .next t ∧ P t ∧ f t = (f s + c) % m) (hlt : ∀ s, P s → f s < m) (n : Nat)
    {s : State} (hs : P s) : ∃ t, execTimes i n s = .next t ∧ P t ∧ f t = (f s + n * c) % m := by
  induction n generalizing s with
  | zero => exact ⟨s, rfl, hs, by rw [Nat.zero_mul, Nat.add_zero, Nat.mod_eq_of_lt (hlt s hs)]⟩
  | succ n ih =>
    obtain ⟨t, hexec, ht, hft⟩ := hstep s hs
    obtain ⟨u, hrun, hu, hfu⟩ := ih ht
    refine ⟨u, by rw [execTimes, hexec]; exact hrun, hu, ?_⟩
    rw [hfu, hft, Nat.mod_add_mod, Nat.add_assoc, Nat.succ_mul, Nat.add_comm c]

/-- The port rests and `OFFSET` is in its range. -/
def OffsetReady (s : State) : Prop := s.seq = .idle ∧ s.offset.toNat < 40

theorem displayShift_step {dir : Byte} {c : Nat} (hdir : ShiftAmount 40 dir c) (bl : Bit) {s : State}
    (hs : OffsetReady s) :
    ∃ t, exec (.shift 1 dir bl) s = .next t ∧ OffsetReady t ∧ t.offset.toNat = (s.offset.toNat + c) % 40 := by
  obtain ⟨t, hexec, hrest, ho, -⟩ := exec_displayShift hs.1 hdir bl
  exact ⟨t, hexec, ⟨hrest, by omega⟩, ho⟩

/-- Forty display shifts in one direction are a multiple of 40 (R162). -/
theorem fortyDisplayShifts {dir : Byte} {c : Nat} (hdir : ShiftAmount 40 dir c) (bl : Bit) {s : State}
    (hs : OffsetReady s) : ∃ t, execTimes (.shift 1 dir bl) 40 s = .next t ∧ t.offset = s.offset := by
  obtain ⟨t, hrun, -, ho⟩ :=
    execTimes_of_step (fun s hs => displayShift_step hdir bl hs) (fun s hs => hs.2) 40 hs
  have hlt := hs.2
  exact ⟨t, hrun, BitVec.eq_of_toNat_eq (by omega)⟩

/-- Two display shifts whose amounts make 40 cancel (R162). -/
theorem displayShifts_cancel {dir dir' : Byte} {c c' : Nat} (hdir : ShiftAmount 40 dir c)
    (hdir' : ShiftAmount 40 dir' c') (hsum : c + c' = 40) (bl : Bit) {s : State} (hs : OffsetReady s) :
    ∃ t u, exec (.shift 1 dir bl) s = .next t ∧ exec (.shift 1 dir' bl) t = .next u ∧ u.offset = s.offset := by
  obtain ⟨t, hexec, ht, ho⟩ := displayShift_step hdir bl hs
  obtain ⟨u, hexec', -, ho'⟩ := displayShift_step hdir' bl ht
  have hlt := hs.2
  exact ⟨t, u, hexec, hexec', BitVec.eq_of_toNat_eq (by omega)⟩

/-- Settles O33: a display shift adds 1 or 39 modulo 40. -/
theorem fortyDisplayShiftsReturnTheOffset : Obligations.FortyDisplayShiftsReturnTheOffset := by
  intro s bl hidle hoffset
  have hs : OffsetReady s := ⟨hidle, by omega⟩
  exact ⟨fortyDisplayShifts (shiftAmount_right 40) bl hs, fortyDisplayShifts (shiftAmount_left 40) bl hs,
    displayShifts_cancel (shiftAmount_right 40) (shiftAmount_left 40) rfl bl hs,
    displayShifts_cancel (shiftAmount_left 40) (shiftAmount_right 40) rfl bl hs⟩

/-- The port rests and `CUR_X` is in its range. -/
def CursorReady (s : State) : Prop := s.seq = .idle ∧ s.curX.toNat ≤ 39

theorem cursorIndex_lt {s : State} (hs : CursorReady s) : cursorIndex s < 80 := by
  have hcol := hs.2
  have hrow := s.curY.isLt
  rw [cursorIndex]
  omega

/-- The 80 positions have 80 numbers (R163). -/
theorem cursor_eq_of_cursorIndex_eq {s t : State} (hs : s.curX.toNat ≤ 39) (ht : t.curX.toNat ≤ 39)
    (h : cursorIndex t = cursorIndex s) : t.curX = s.curX ∧ t.curY = s.curY := by
  rw [cursorIndex, cursorIndex] at h
  exact ⟨BitVec.eq_of_toNat_eq (by omega), BitVec.eq_of_toNat_eq (by omega)⟩

theorem cursorShift_step {dir : Byte} {c : Nat} (hdir : ShiftAmount 80 dir c) (bl : Bit) {s : State}
    (hs : CursorReady s) :
    ∃ t, exec (.shift 0 dir bl) s = .next t ∧ CursorReady t ∧ cursorIndex t = (cursorIndex s + c) % 80 := by
  obtain ⟨t, hexec, hrest, hindex, hcol, -⟩ := exec_cursorShift hs.1 hs.2 hdir bl
  exact ⟨t, hexec, ⟨hrest, hcol⟩, hindex⟩

/-- Eighty cursor shifts in one direction are a multiple of 80 (R163). -/
theorem eightyCursorShifts {dir : Byte} {c : Nat} (hdir : ShiftAmount 80 dir c) (bl : Bit) {s : State}
    (hs : CursorReady s) :
    ∃ t, execTimes (.shift 0 dir bl) 80 s = .next t ∧ t.curX = s.curX ∧ t.curY = s.curY := by
  obtain ⟨t, hrun, ht, hindex⟩ :=
    execTimes_of_step (fun s hs => cursorShift_step hdir bl hs) (fun s hs => cursorIndex_lt hs) 80 hs
  have hlt := cursorIndex_lt hs
  exact ⟨t, hrun, cursor_eq_of_cursorIndex_eq hs.2 ht.2 (by omega)⟩

/-- Two cursor shifts whose amounts make 80 cancel (R163). -/
theorem cursorShifts_cancel {dir dir' : Byte} {c c' : Nat} (hdir : ShiftAmount 80 dir c)
    (hdir' : ShiftAmount 80 dir' c') (hsum : c + c' = 80) (bl : Bit) {s : State} (hs : CursorReady s) :
    ∃ t u, exec (.shift 0 dir bl) s = .next t ∧ exec (.shift 0 dir' bl) t = .next u ∧ trackerOf u = trackerOf s := by
  obtain ⟨t, hexec, hrest, hindex, hcol, ho⟩ := exec_cursorShift hs.1 hs.2 hdir bl
  obtain ⟨u, hexec', -, hindex', hcol', ho'⟩ := exec_cursorShift hrest hcol hdir' bl
  have hlt := cursorIndex_lt hs
  obtain ⟨hx, hy⟩ := cursor_eq_of_cursorIndex_eq hs.2 hcol' (by omega)
  exact ⟨t, u, hexec, hexec', trackerOf_eq_iff.mpr ⟨hx, hy, ho'.trans ho⟩⟩

/-- Settles O34: a cursor shift adds 1 or 79 to the cursor's number modulo 80. -/
theorem cursorShiftsMoveRoundEightyPositions : Obligations.CursorShiftsMoveRoundEightyPositions := by
  intro s bl hidle hcol
  have hs : CursorReady s := ⟨hidle, hcol⟩
  obtain ⟨t, hexec, -, hindex, hcolt, -⟩ := exec_cursorShift hidle hcol (shiftAmount_right 80) bl
  obtain ⟨u, hexec', -, hindex', hcolu, -⟩ := exec_cursorShift hidle hcol (shiftAmount_left 80) bl
  exact ⟨⟨t, hexec, hindex, hcolt⟩, ⟨u, hexec', hindex', hcolu⟩, eightyCursorShifts (shiftAmount_right 80) bl hs,
    eightyCursorShifts (shiftAmount_left 80) bl hs, cursorShifts_cancel (shiftAmount_right 80) (shiftAmount_left 80) rfl bl hs,
    cursorShifts_cancel (shiftAmount_left 80) (shiftAmount_right 80) rfl bl hs⟩

end Sys2Proof.Machine
end

section
/-! `EXP` (R32): it follows the events of `TRACE` over every step, and no instruction reads it. -/

namespace Sys2Proof.Machine

/-! ### `EXP` follows the trace -/

theorem exec_latches {i : Instr} {s t : State} (h : exec i s = .next t) :
    ∃ evs, t.trace = s.trace ++ evs ∧ t.exp = latchOf evs s.exp := by
  cases hop : isOperation i
  case false =>
    obtain ⟨v, hv⟩ := exec_eq_returnValue hop s
    cases hv.symm.trans h
    exact ⟨[], (List.append_nil _).symm, rfl⟩
  case true =>
    obtain ⟨htrace, -, hexp, -⟩ := reportsPlan_of_exec_next hop h
    exact ⟨_, htrace, hexp⟩

theorem step_latches {s t : State} (h : step s = .next t) :
    ∃ evs, t.trace = s.trace ++ evs ∧ t.exp = latchOf evs s.exp := by
  obtain ⟨hbusy, rfl⟩ | rfl | ⟨i, rest, -, hexec⟩ := step_next_cases h
  · obtain ⟨e, q, o, st, heq, -, -⟩ := seqAdvance_spec hbusy
    rw [heq]
    exact ⟨[e], rfl, rfl⟩
  · exact ⟨[], (List.append_nil _).symm, rfl⟩
  · exact exec_latches (s := { s with requests := rest }) hexec

/-! ### Nothing reads `EXP` -/

/-- `s` with another byte in `EXP`. -/
def setExp (e : Byte) (s : State) : State := { s with exp := e }

@[simp] theorem setExp_curX (e : Byte) (s : State) : (setExp e s).curX = s.curX := rfl

/-- Changing `EXP` before `op` changes nothing but `EXP` after it. -/
def IgnoresExp (op : State → State) : Prop := ∀ s e, ∃ e', op (setExp e s) = setExp e' (op s)

theorem raise_ignoresExp (st : Status) : IgnoresExp (raise st) := fun _ e => ⟨e, rfl⟩

theorem returnOk_ignoresExp : IgnoresExp returnOk := fun _ e => ⟨e, rfl⟩

theorem delay_ignoresExp (ms : Nat) : IgnoresExp (delay ms) := fun _ e => ⟨e, rfl⟩

theorem stubRead_ignoresExp : IgnoresExp stubRead := fun _ e => ⟨e, rfl⟩

theorem afterEvents_ignoresExp (evs : List BusEvent) : IgnoresExp (afterEvents evs) := fun _ _ => ⟨_, rfl⟩

theorem IgnoresExp.comp {f g : State → State} (hg : IgnoresExp g) (hf : IgnoresExp f) :
    IgnoresExp fun s => g (f s) := by
  intro s e
  obtain ⟨e', h⟩ := hf s e
  dsimp only
  rw [h]
  exact hg (f s) e'

theorem IgnoresExp.ifOk {f k : State → State} (hf : IgnoresExp f) (hk : IgnoresExp k) :
    IgnoresExp fun s => ifOk (f s) k := by
  intro s e
  obtain ⟨e', h⟩ := hf s e
  dsimp only
  rw [h]
  by_cases hok : (f s).status = some .ok
  · rw [ifOk_ok k hok, ifOk_ok (s := setExp e' (f s)) k hok]
    exact hk (f s) e'
  · rw [ifOk_error k hok, ifOk_error (s := setExp e' (f s)) k hok]
    exact ⟨e', rfl⟩

theorem transmit_ignoresExp (iw : Storage) (bl : Bit) : IgnoresExp (transmit iw bl) := by
  intro s e
  rw [transmit_spec, transmit_spec]
  exact ⟨_, rfl⟩

/-- A raw write answered `DONE` (R172). -/
theorem rawWrites_cons_of_good {s : State} (hgood : s.answerAt 0 = .good) (b : Byte) (ms : Nat)
    (rest : List (Byte × Nat)) :
    rawWrites ((b, ms) :: rest) s = rawWrites rest (delay ms (afterEvents [.write b .done] s)) := by
  simp only [rawWrites, busWrite, hgood, writeAnswer]
  rfl

/-- A raw write answered `FAIL` (R172, R193). -/
theorem rawWrites_cons_of_bad {s : State} (hbad : s.answerAt 0 = .bad) (b : Byte) (ms : Nat)
    (rest : List (Byte × Nat)) :
    rawWrites ((b, ms) :: rest) s = raise .busWriteFailure (afterEvents [.write b .fail] s) := by
  simp only [rawWrites, busWrite, hbad, writeAnswer]
  rfl

theorem rawWrites_ignoresExp (steps : List (Byte × Nat)) : IgnoresExp (rawWrites steps) := by
  induction steps with
  | nil => exact returnOk_ignoresExp
  | cons p rest ih =>
    obtain ⟨b, ms⟩ := p
    intro s e
    have hanswer : (setExp e s).answerAt 0 = s.answerAt 0 := rfl
    cases h : s.answerAt 0
    case good =>
      rw [rawWrites_cons_of_good h, rawWrites_cons_of_good (hanswer.trans h)]
      exact (ih.comp ((delay_ignoresExp ms).comp (afterEvents_ignoresExp [.write b .done]))) s e
    case bad =>
      rw [rawWrites_cons_of_bad h, rawWrites_cons_of_bad (hanswer.trans h)]
      exact ((raise_ignoresExp .busWriteFailure).comp (afterEvents_ignoresExp [.write b .fail])) s e

theorem timedWords_ignoresExp (bl : Bit) (ws : List (Word × Nat)) : IgnoresExp (timedWords bl ws) := by
  induction ws with
  | nil => exact returnOk_ignoresExp
  | cons p rest ih => exact (transmit_ignoresExp (storageOf p.1) bl).ifOk (ih.comp (delay_ignoresExp p.2))

theorem sendString_ignoresExp (bl : Bit) (cs : List Byte) : IgnoresExp (sendString bl cs) := by
  induction cs with
  | nil => exact returnOk_ignoresExp
  | cons c cs ih => exact (transmit_ignoresExp (storageOf (wordWdata c)) bl).ifOk ih

/-- The operations of the façade read the configuration, which is no part of `EXP`. -/
theorem IgnoresExp.of_cfg {op : Config.Params → State → State} (h : ∀ p, IgnoresExp (op p)) :
    IgnoresExp fun s => op s.cfg s :=
  fun s e => h s.cfg s e

theorem initialiseDevice_ignoresExp (hd : Handle) : IgnoresExp (initialiseDevice hd) := by
  have hstore : IgnoresExp fun s => { s with handle := hd, handleSet := true } := fun _ e => ⟨e, rfl⟩
  exact IgnoresExp.of_cfg fun p => ((rawWrites_ignoresExp p.initSteps).comp
    ((delay_ignoresExp p.initPowerUp).comp hstore)).ifOk (timedWords_ignoresExp p.facadeBl (initWords p))

theorem moveTo_ignoresExp (x y : Byte) (bl : Bit) : IgnoresExp (moveTo x y bl) := by
  intro s e
  unfold moveTo
  split
  · exact transmit_ignoresExp _ bl { s with curX := x.setWidth 6, curY := y.setWidth 1 } e
  · exact raise_ignoresExp .invalidParameter s e

theorem shiftTracker_ignoresExp (mode : Bit) (dir : Byte) : IgnoresExp (shiftTracker mode dir) := by
  intro s e
  refine ⟨e, ?_⟩
  unfold shiftTracker cursorRight cursorLeft
  rw [setExp_curX]
  split_ifs <;> rfl

theorem shiftBy_ignoresExp (mode : Bit) (dir : Byte) (bl : Bit) : IgnoresExp (shiftBy mode dir bl) := by
  intro s e
  unfold shiftBy
  split
  · exact ((transmit_ignoresExp _ bl).comp (shiftTracker_ignoresExp mode dir)) s e
  · exact raise_ignoresExp .invalidParameter s e

theorem whenIdle_ignoresExp {op : State → State} (hop : IgnoresExp op) {s t : State} (h : whenIdle s op = .next t)
    (e : Byte) : ∃ e', whenIdle (setExp e s) op = .next (setExp e' t) := by
  obtain ⟨hidle, rfl⟩ := whenIdle_next_iff.mp h
  obtain ⟨e', he⟩ := hop s e
  exact ⟨e', by rw [whenIdle_of_idle (s := setExp e s) op hidle, he]⟩

theorem whenInitialised_ignoresExp {op : State → State} (hop : IgnoresExp op) {s t : State}
    (h : whenInitialised s op = .next t) (e : Byte) :
    ∃ e', whenInitialised (setExp e s) op = .next (setExp e' t) := by
  obtain ⟨hidle, hset, rfl⟩ := whenInitialised_next_iff.mp h
  obtain ⟨e', he⟩ := hop s e
  exact ⟨e', by rw [whenInitialised_of_set (s := setExp e s) op hidle hset, he]⟩

/-- What `EXP` holds decides neither whether an instruction completes nor what else it leaves. -/
theorem exec_setExp {i : Instr} {s t : State} (h : exec i s = .next t) (e : Byte) :
    ∃ e', exec i (setExp e s) = .next (setExp e' t) := by
  cases i with
  | xmit iw bl => exact whenIdle_ignoresExp (transmit_ignoresExp iw bl) h e
  | move x y bl => exact whenIdle_ignoresExp (moveTo_ignoresExp x y bl) h e
  | shift mode dir bl => exact whenIdle_ignoresExp (shiftBy_ignoresExp mode dir bl) h e
  | rddata | rdbusy => exact whenIdle_ignoresExp stubRead_ignoresExp h e
  | init hd => exact whenIdle_ignoresExp (initialiseDevice_ignoresExp hd) h e
  | clear | showchar c => exact whenInitialised_ignoresExp (transmit_ignoresExp _ s.cfg.facadeBl) h e
  | movecursor x y => exact whenInitialised_ignoresExp (moveTo_ignoresExp x y s.cfg.facadeBl) h e
  | showstr cs => exact whenInitialised_ignoresExp (sendString_ignoresExp s.cfg.facadeBl cs) h e
  | shiftdisplay right => exact whenInitialised_ignoresExp (shiftBy_ignoresExp 1 (zext8 right) s.cfg.facadeBl) h e
  | _ => cases h; exact ⟨e, rfl⟩

/-- Settles O45: every step appends the events that its latch follows, and `EXP` is no operand of any meaning. -/
theorem expFollowsTheTrace : Obligations.ExpFollowsTheTrace :=
  ⟨fun _ _ => step_latches, fun _ _ _ e h => exec_setExp h e⟩

end Sys2Proof.Machine
end

section
/-! What an operation's events and calls never hold (R94, R192, R193, R196, R203), and what an instruction leaves as
it was (R26, R38, R110). -/

namespace Sys2Proof.Machine

/-! ### A failure is the last event -/

/-- The last of events answered well is no failure. -/
theorem getLast?_ne_failure {evs : List BusEvent} (hevs : ∀ e ∈ evs, isFailure e = false) {e : BusEvent}
    (he : isFailure e = true) : evs.getLast? ≠ some e := by
  intro hlast
  rw [hevs e (List.mem_of_getLast? hlast)] at he
  cases he

/-- `st` names the failure that the events end with, and no other event is one. -/
def StatusNamesTheFailure (evs : List BusEvent) (st : Status) : Prop :=
  (∀ e ∈ evs.dropLast, isFailure e = false) ∧
    (st = .busNotReady ↔ evs.getLast? = some (.probe .notReady)) ∧
    (st = .busWriteFailure ↔ ∃ b, evs.getLast? = some (.write b .fail))

theorem statusNamesTheFailure_of_no_failure {evs : List BusEvent} {st : Status}
    (hevs : ∀ e ∈ evs, isFailure e = false) (hready : st ≠ .busNotReady) (hwrite : st ≠ .busWriteFailure) :
    StatusNamesTheFailure evs st := by
  refine ⟨fun e he => hevs e (List.mem_of_mem_dropLast he), iff_of_false hready (getLast?_ne_failure hevs rfl),
    iff_of_false hwrite ?_⟩
  rintro ⟨b, hlast⟩
  exact getLast?_ne_failure hevs rfl hlast

/-- An event answered well before the others does not change which failure they end with. -/
theorem StatusNamesTheFailure.cons {e : BusEvent} {evs : List BusEvent} {st : Status} (he : isFailure e = false)
    (h : StatusNamesTheFailure evs st) : StatusNamesTheFailure (e :: evs) st := by
  obtain ⟨hbefore, hready, hwrite⟩ := h
  cases evs with
  | nil => exact statusNamesTheFailure_of_no_failure (by simpa using he) (by simpa using hready) (by simpa using hwrite)
  | cons a evs =>
    rw [StatusNamesTheFailure, List.getLast?_cons_cons, List.dropLast_cons_cons]
    exact ⟨List.forall_mem_cons.mpr ⟨he, hbefore⟩, hready, hwrite⟩

theorem statusNamesTheFailure_issue (ans : Nat → Config.Reply) (k : Nat) (ts : List Txn) :
    StatusNamesTheFailure (issue ans k ts) (issueStatus ans k ts) := by
  induction ts generalizing k with
  | nil => exact statusNamesTheFailure_of_no_failure nofun nofun nofun
  | cons a ts ih =>
    cases a with
    | probe | write =>
      cases hk : ans k <;> simp only [issue, issueStatus, hk]
      case bad => simp [StatusNamesTheFailure]
      case good => exact (ih (k + 1)).cons rfl

theorem statusNamesTheFailure_expected (i : Instr) (s : State) :
    StatusNamesTheFailure (expectedEvents i s) (expectedStatus i s) := by
  rw [expectedEvents, expectedStatus]
  split
  · exact statusNamesTheFailure_issue ..
  · exact statusNamesTheFailure_of_no_failure nofun nofun nofun

/-- Settles O23: the events and the status of an operation that completes are those of issuing its plan. -/
theorem aFailedTransactionIsTheLast : Obligations.AFailedTransactionIsTheLast := by
  intro i s t hop h
  obtain ⟨htrace, hstatus, -, -⟩ := reportsPlan_of_exec_next hop h
  rw [hstatus, Option.some_inj, Option.some_inj]
  exact ⟨_, htrace, statusNamesTheFailure_expected i s⟩

/-! ### No word that reads -/

/-- The read/write bit of an output byte is the word's (R81, R83). -/
theorem getLsbD_outByte_rw (w : Word) (bl : Bit) (h : Half) (en : Bit) :
    (outByte w bl h en).getLsbD 1 = w.getLsbD 8 := by
  have hbit : (outByte w bl h en).getLsbD 1 = ((outByte w bl h en).extractLsb' 1 1).getLsbD 0 := by simp
  rw [hbit, extractLsb'_outByte_rw]
  simp [rwBit]

/-- Every byte the transactions write has read/write clear. -/
def WritesNoRead (ts : List Txn) : Prop := ∀ b, .write b ∈ ts → b.getLsbD 1 = false

theorem writesNoRead_xmitPlan {w : Word} (hw : w.getLsbD 8 = false) (bl : Bit) : WritesNoRead (xmitPlan w bl) := by
  intro b hb
  rw [write_mem_xmitPlan, bytesOf_eq_outByte] at hb
  simp only [List.mem_cons, List.not_mem_nil, or_false] at hb
  obtain rfl | rfl | rfl | rfl := hb <;> exact (getLsbD_outByte_rw ..).trans hw

theorem writesNoRead_flatMap {α : Type} {l : List α} {f : α → List Txn} (h : ∀ a ∈ l, WritesNoRead (f a)) :
    WritesNoRead (l.flatMap f) := by
  intro b hb
  obtain ⟨a, ha, hb⟩ := List.mem_flatMap.mp hb
  exact h a ha b hb

/-- The address of a legal position leaves the control bits of its word clear (R118, R152). -/
theorem getLsbD_ddaddr_eight {n : Nat} (hn : n < 128) : (0x080 ||| BitVec.ofNat 10 n : Word).getLsbD 8 = false := by
  have hbit : n.testBit 8 = false := Nat.testBit_lt_two_pow (by omega)
  rw [BitVec.getLsbD_or, BitVec.getLsbD_ofNat, hbit]
  rfl

theorem getLsbD_shift_eight {dir : Byte} (hlegal : dir.toNat ≤ 1) (mode : Bit) :
    (0x010 ||| (mode.setWidth 10 <<< 3) ||| (dir.setWidth 10 <<< 2) : Word).getLsbD 8 = false := by
  obtain rfl | rfl : dir = 0 ∨ dir = 1 := by bv_omega
  · revert mode; decide
  · revert mode; decide

theorem getLsbD_shiftdisplay_eight (right : Bit) :
    (0x018 ||| (right.setWidth 10 <<< 2) : Word).getLsbD 8 = false := by
  revert right; decide

theorem getLsbD_wdata_eight (c : Byte) : (0x200 ||| c.setWidth 10 : Word).getLsbD 8 = false := by
  simp

/-- Only `XMIT` can be given a word that reads, and only `INIT` writes bytes of its own (R94). -/
theorem writesNoRead_plan {i : Instr} (s : State) (hlegal : operandsLegal i = true)
    (hxmit : ∀ iw bl, i = .xmit iw bl → iw.getLsbD 8 = false) (hinit : ¬∃ h, i = .init h) :
    WritesNoRead (plan i s) := by
  cases i with
  | xmit iw bl => exact writesNoRead_xmitPlan (by simpa using hxmit iw bl rfl) bl
  | move x y bl => exact writesNoRead_xmitPlan (getLsbD_ddaddr_eight (addrOf_eq_ramAddress s hlegal).2) bl
  | movecursor x y =>
    exact writesNoRead_xmitPlan (getLsbD_ddaddr_eight (addrOf_eq_ramAddress s hlegal).2) s.cfg.facadeBl
  | shift mode dir bl => exact writesNoRead_xmitPlan (getLsbD_shift_eight (of_decide_eq_true hlegal) mode) bl
  | shiftdisplay right => exact writesNoRead_xmitPlan (getLsbD_shiftdisplay_eight right) s.cfg.facadeBl
  | clear => exact writesNoRead_xmitPlan (by decide) s.cfg.facadeBl
  | showchar c => exact writesNoRead_xmitPlan (getLsbD_wdata_eight c) s.cfg.facadeBl
  | showstr cs => exact writesNoRead_flatMap fun c _ => writesNoRead_xmitPlan (getLsbD_wdata_eight c) s.cfg.facadeBl
  | init h => exact absurd ⟨h, rfl⟩ hinit
  | _ => exact nofun

/-- Issuing stops at the first bad answer, so there are no more events than transactions. -/
theorem length_issue_le (ans : Nat → Config.Reply) (k : Nat) (ts : List Txn) : (issue ans k ts).length ≤ ts.length := by
  induction ts generalizing k with
  | nil => exact Nat.le_refl 0
  | cons a ts ih =>
    have hrest := ih (k + 1)
    cases a with
    | probe | write => cases hk : ans k <;> simp [issue, hk, hrest]

/-- The events after those of the first transactions are issued by the others. -/
theorem drop_issue_append (ans : Nat → Config.Reply) (ts us : List Txn) {e : BusEvent}
    (he : e ∈ (issue ans 0 (ts ++ us)).drop ts.length) : ∃ k, e ∈ issue ans k us := by
  rw [issue_append] at he
  split at he
  next hok =>
    rw [← issue_length_of_ok hok, List.drop_left] at he
    exact ⟨_, he⟩
  next =>
    rw [List.drop_eq_nil_of_le (length_issue_le ans 0 ts)] at he
    cases he

/-- The words of the standard part of the initialisation write only (R174). -/
theorem writesNoRead_initWords (bl : Bit) :
    WritesNoRead ([0x028, 0x00E, 0x001, 0x007].flatMap fun w => xmitPlan w bl) := by
  have hwords : ∀ w ∈ ([0x028, 0x00E, 0x001, 0x007] : List Word), w.getLsbD 8 = false := by simp
  exact writesNoRead_flatMap fun w hw => writesNoRead_xmitPlan (hwords w hw) bl

/-- Settles O48: what is written is in the plan, and after its raw bytes the plan of `INIT` holds four words that
write. -/
theorem noReadWordIsSentByItself : Obligations.NoReadWordIsSentByItself := by
  refine ⟨fun i s t hxmit hinit h b a hmem => ?_, fun hd s t h b a hmem => ?_⟩
  · cases hop : isOperation i
    case false =>
      obtain ⟨v, hv⟩ := exec_eq_returnValue hop s
      cases hv.symm.trans h
      simp at hmem
    case true =>
      obtain ⟨htrace, -, -, -⟩ := reportsPlan_of_exec_next hop h
      rw [htrace, List.drop_left, expectedEvents] at hmem
      split at hmem
      next hlegal => exact writesNoRead_plan s hlegal hxmit hinit b (write_mem_of_write_mem_issue hmem)
      next => cases hmem
  · obtain ⟨htrace, -, -, -⟩ := reportsPlan_of_exec_next rfl h
    have hlen : s.cfg.initRaw.length = (s.cfg.initRaw.map Txn.write).length := (List.length_map ..).symm
    rw [htrace, List.drop_length_add_append, hlen] at hmem
    obtain ⟨k, hmem⟩ := drop_issue_append _ _ _ hmem
    exact writesNoRead_initWords s.cfg.facadeBl b (write_mem_of_write_mem_issue hmem)

/-! ### No delay -/

@[simp] theorem delaysOf_append (cs cs' : List ServiceCall) : delaysOf (cs ++ cs') = delaysOf cs ++ delaysOf cs' :=
  List.filterMap_append ..

@[simp] theorem delaysOf_map_callOf (s : State) (evs : List BusEvent) : delaysOf (evs.map (callOf s)) = [] := by
  induction evs with
  | nil => rfl
  | cons e evs ih => cases e <;> exact ih

@[simp] theorem delaysOf_transmit (iw : Storage) (bl : Bit) (s : State) :
    delaysOf (transmit iw bl s).calls = delaysOf s.calls := by
  rw [transmit_spec]
  simp [afterEvents]

theorem delaysOf_moveTo (x y : Byte) (bl : Bit) (s : State) : delaysOf (moveTo x y bl s).calls = delaysOf s.calls := by
  unfold moveTo
  split
  · exact delaysOf_transmit ..
  · rfl

theorem delaysOf_shiftBy (mode : Bit) (dir : Byte) (bl : Bit) (s : State) :
    delaysOf (shiftBy mode dir bl s).calls = delaysOf s.calls := by
  unfold shiftBy
  split
  · obtain ⟨x, y, o, htracker⟩ := shiftTracker_eq mode dir s
    rw [delaysOf_transmit, htracker]
  · rfl

theorem delaysOf_sendString (bl : Bit) (cs : List Byte) (s : State) :
    delaysOf (sendString bl cs s).calls = delaysOf s.calls := by
  induction cs generalizing s with
  | nil => rfl
  | cons c cs ih =>
    rw [sendString, ifOk]
    split
    · rw [ih, delaysOf_transmit]
    · exact delaysOf_transmit ..

/-- Settles O47: the transmitter makes no delay, and only `INIT` makes others. -/
theorem onlyInitWaits : Obligations.OnlyInitWaits := by
  intro i s t hinit h
  cases i with
  | xmit iw bl => obtain ⟨-, rfl⟩ := whenIdle_next_iff.mp h; exact delaysOf_transmit ..
  | move x y bl => obtain ⟨-, rfl⟩ := whenIdle_next_iff.mp h; exact delaysOf_moveTo ..
  | shift mode dir bl => obtain ⟨-, rfl⟩ := whenIdle_next_iff.mp h; exact delaysOf_shiftBy ..
  | rddata | rdbusy => obtain ⟨-, rfl⟩ := whenIdle_next_iff.mp h; rfl
  | init hd => exact absurd ⟨hd, rfl⟩ hinit
  | clear | showchar c => obtain ⟨-, -, rfl⟩ := whenInitialised_next_iff.mp h; exact delaysOf_transmit ..
  | movecursor x y => obtain ⟨-, -, rfl⟩ := whenInitialised_next_iff.mp h; exact delaysOf_moveTo ..
  | showstr cs => obtain ⟨-, -, rfl⟩ := whenInitialised_next_iff.mp h; exact delaysOf_sendString ..
  | shiftdisplay right => obtain ⟨-, -, rfl⟩ := whenInitialised_next_iff.mp h; exact delaysOf_shiftBy ..
  | _ => cases h; rfl

/-! ### The frame -/

/-- Settles O44: for each of the four ways in which an instruction completes. -/
theorem operationFrame : Obligations.OperationFrame := by
  intro i s t h
  cases ran_of_exec_next h with
  | returned v hop => simp [hop, trackerOf]
  | readStub hi hidle =>
    have hop : isOperation i = true := by obtain rfl | rfl := hi <;> rfl
    have hstub : i ≠ .rddata → ¬i ≠ .rdbusy := fun hdata hbusy => hi.elim hdata hbusy
    refine ⟨rfl, rfl, fun _ => ⟨rfl, rfl⟩, fun _ hdata hbusy => absurd hbusy (hstub hdata),
      fun _ => ⟨rfl, rfl, rfl, rfl, rfl, rfl, rfl, rfl⟩, fun hno => ?_⟩
    rw [hop] at hno
    cases hno
  | refused hop hillegal hidle =>
    refine ⟨rfl, rfl, fun _ => ⟨rfl, rfl⟩, fun _ _ _ => rfl, fun hpure => ?_, fun hno => ?_⟩
    · obtain hno | rfl | rfl := hpure
      · rw [hop] at hno; cases hno
      · cases hillegal
      · cases hillegal
    · rw [hop] at hno; cases hno
  | issued hop hi hidle hissues =>
    obtain ⟨x, y, o, hd, v, hprepared, hkept⟩ := prepared_eq i s
    rw [hprepared] at hissues
    refine ⟨hissues.cfg, hissues.requests, fun hinit => ?_, fun _ _ _ => hissues.result, fun hpure => ?_,
      fun hno => ?_⟩
    · obtain ⟨hhandle, hset⟩ := hkept hinit
      exact ⟨hissues.handle.trans hhandle, hissues.handleSet.trans hset⟩
    · obtain hno | rfl | rfl := hpure
      · rw [hop] at hno; cases hno
      · exact absurd rfl hi.1
      · exact absurd rfl hi.2
    · rw [hop] at hno; cases hno

end Sys2Proof.Machine
end

section
/-! The façade (R172 to R182): each operation as the core operations it stands for, the string loop and the
initialisation whole, and the calls of the latter when every answer is good. -/

namespace Sys2Proof.Machine

/-! ### Operations that stand for core operations -/

/-- A word of the builder in the storage `XMIT` takes (R119). -/
theorem storageOf_wordWdata_eq_or (c : Byte) : storageOf (wordWdata c) = 0x200 ||| c.setWidth 16 := by
  simp [storageOf, wordWdata, BitVec.setWidth_or]

section Ready

variable {s : State} (hidle : s.seq = .idle) (hset : s.handleSet = true)
include hidle hset

/-- After an `INIT` and between operations the façade runs what the core operation runs (R182). -/
theorem whenInitialised_eq_whenIdle (op : State → State) : whenInitialised s op = whenIdle s op := by
  rw [whenInitialised_of_set op hidle hset, whenIdle_of_idle op hidle]

theorem exec_clear_eq_xmit : exec .clear s = exec (.xmit 0x001 s.cfg.facadeBl) s :=
  whenInitialised_eq_whenIdle hidle hset _

theorem exec_movecursor_eq_move (x y : Byte) : exec (.movecursor x y) s = exec (.move x y s.cfg.facadeBl) s :=
  whenInitialised_eq_whenIdle hidle hset _

theorem exec_showchar_eq_xmit (c : Byte) :
    exec (.showchar c) s = exec (.xmit (0x200 ||| c.setWidth 16) s.cfg.facadeBl) s := by
  rw [← storageOf_wordWdata_eq_or]
  exact whenInitialised_eq_whenIdle hidle hset _

theorem exec_shiftdisplay_eq_shift (right : Bit) :
    exec (.shiftdisplay right) s = exec (.shift 1 (right.setWidth 8) s.cfg.facadeBl) s :=
  whenInitialised_eq_whenIdle hidle hset _

/-- `SHIFTDISPLAY` completes, has legal operands, and moves `OFFSET` by 1 or 39 (R181). -/
theorem exec_shiftdisplay_moves (right : Bit) :
    ∃ t, exec (.shiftdisplay right) s = .next t ∧ t.status ≠ some .invalidParameter ∧
      t.offset.toNat = (s.offset.toNat + if right = 1 then 1 else 39) % 40 := by
  have hdir : ShiftAmount 40 (right.setWidth 8) (if right = 1 then 1 else 39) := by
    obtain rfl | rfl := BitVec.eq_zero_or_eq_one right
    · exact shiftAmount_left 40
    · exact shiftAmount_right 40
  obtain ⟨t, hexec, -, hoffset, -, -⟩ := exec_displayShift hidle hdir s.cfg.facadeBl
  rw [← exec_shiftdisplay_eq_shift hidle hset] at hexec
  refine ⟨t, hexec, fun hinvalid => ?_, hoffset⟩
  rw [status_of_exec_next rfl hexec, Option.some_inj, expectedStatus_eq_invalidParameter_iff] at hinvalid
  cases hinvalid

/-- With the façade's backlight on and good answers, an operation of one transmission sends its word's bytes. -/
theorem endsWith_of_facade_plan {i : Instr} {w : Word} (hop : isOperation i = true) (hlegal : operandsLegal i = true)
    (hplan : plan i s = xmitPlan w s.cfg.facadeBl) (hgood : AllGood s 5) :
    EndsWith i s (goodEvents (bytesOf w s.cfg.facadeBl)) .ok
      (latchOf (goodEvents (bytesOf w s.cfg.facadeBl)) s.exp) := by
  obtain ⟨t, hexec, hreports⟩ := operationsIssueTheirPlan i s hop ⟨hidle, fun _ => hset⟩
  exact endsWith_of_plan_eq_xmitPlan hexec hreports hlegal hplan hgood

end Ready

/-- Settles O37: the façade's condition met, both sides are one meaning; the rest is known of the core operations. -/
theorem facadeExpandsIntoCoreOperations : Obligations.FacadeExpandsIntoCoreOperations := by
  intro s hidle hset
  refine ⟨⟨exec_clear_eq_xmit hidle hset, ?_⟩,
    fun x y => ⟨exec_movecursor_eq_move hidle hset x y, _, whenInitialised_of_set _ hidle hset⟩,
    fun c => ⟨exec_showchar_eq_xmit hidle hset c, ?_⟩,
    fun r => ⟨exec_shiftdisplay_eq_shift hidle hset r, exec_shiftdisplay_moves hidle hset r⟩, ?_, fun hbl hgood => ?_⟩
  · exact ⟨_, whenInitialised_of_set _ hidle hset, trackerOf_transmit ..⟩
  · exact ⟨_, whenInitialised_of_set _ hidle hset, trackerOf_transmit ..⟩
  · rw [exec_of_illegal ⟨hidle, fun _ => hset⟩ (by decide), raise_of_idle hidle]
  · have hclear := endsWith_of_facade_plan hidle hset (i := .clear) rfl rfl rfl hgood
    have hshow := endsWith_of_facade_plan hidle hset (i := .showchar 0x41) rfl rfl rfl hgood
    have hshift := endsWith_of_facade_plan hidle hset (i := .shiftdisplay 1) rfl rfl rfl hgood
    rw [hbl] at hclear hshow hshift
    exact ⟨hclear, hshow, hshift⟩

/-! ### `SHOWSTR` -/

/-- The event of a transaction answered well. -/
def answeredWell (a : Txn) : BusEvent :=
  match a with
  | .probe => .probe .ready
  | .write b => .write b .done

/-- Transactions that are all answered well are issued to the last one (R137). -/
theorem issue_of_good {ans : Nat → Config.Reply} {ts : List Txn} {k : Nat} (h : ∀ j < ts.length, ans (k + j) = .good) :
    issue ans k ts = ts.map answeredWell ∧ issueStatus ans k ts = .ok := by
  induction ts generalizing k with
  | nil => exact ⟨rfl, rfl⟩
  | cons a ts ih =>
    have hk : ans k = .good := h 0 (Nat.zero_lt_succ _)
    obtain ⟨hissue, hstatus⟩ := ih (k := k + 1) fun j hj => by
      rw [Nat.add_assoc, Nat.add_comm 1]
      exact h (j + 1) (Nat.succ_lt_succ hj)
    cases a with
    | probe | write => simp only [List.map_cons, issue, issueStatus, hk, hissue, hstatus, answeredWell, and_self]

theorem issue_of_allGood {s : State} {ts : List Txn} (h : AllGood s ts.length) :
    issue s.answerAt 0 ts = ts.map answeredWell ∧ issueStatus s.answerAt 0 ts = .ok :=
  issue_of_good fun j hj => by rw [Nat.zero_add]; exact h j hj

theorem length_xmitPlan (w : Word) (bl : Bit) : (xmitPlan w bl).length = 5 := rfl

/-- Five transactions a character (R180). -/
theorem length_plan_showstr (cs : List Byte) (s : State) : (plan (.showstr cs) s).length = 5 * cs.length := by
  have hplan : plan (.showstr cs) s = cs.flatMap fun c => xmitPlan (0x200 ||| c.setWidth 10) s.cfg.facadeBl := rfl
  simp [hplan, List.length_flatMap, length_xmitPlan, Nat.mul_comm]

/-- An operation whose transactions are all answered well issues its whole plan and ends with `OK`. -/
theorem endsWith_plan_of_allGood {i : Instr} {s : State} (hop : isOperation i = true) (haccepts : Accepts i s)
    (hlegal : operandsLegal i = true) (hgood : AllGood s (plan i s).length) :
    EndsWith i s ((plan i s).map answeredWell) .ok (latchOf ((plan i s).map answeredWell) s.exp) := by
  obtain ⟨hissue, hstatus⟩ := issue_of_allGood hgood
  obtain ⟨t, hexec, htrace, hst, hexp, -⟩ := operationsIssueTheirPlan i s hop haccepts
  rw [expectedEvents, if_pos hlegal, hissue] at htrace hexp
  rw [expectedStatus, if_pos hlegal, hstatus] at hst
  exact ⟨t, hexec, htrace, hst, hexp⟩

/-- With five good answers a character `SHOWSTR` ends with `OK` and has sent every character (R180). -/
theorem showstr_endsWith_of_allGood {s : State} (hidle : s.seq = .idle) (hset : s.handleSet = true) (cs : List Byte)
    (hgood : AllGood s (5 * cs.length)) :
    let evs := cs.flatMap fun c => goodEvents (bytesOf (0x200 ||| c.setWidth 10) s.cfg.facadeBl)
    EndsWith (.showstr cs) s evs .ok (latchOf evs s.exp) := by
  have hevents : (plan (.showstr cs) s).map answeredWell =
      cs.flatMap fun c => goodEvents (bytesOf (0x200 ||| c.setWidth 10) s.cfg.facadeBl) := List.map_flatMap ..
  rw [← length_plan_showstr cs s] at hgood
  rw [← hevents]
  exact endsWith_plan_of_allGood rfl ⟨hidle, fun _ => hset⟩ rfl hgood

/-- A character and the rest: the string goes on after `OK` and ends with any other status (R180). -/
theorem exec_showstr_cons {s : State} (hidle : s.seq = .idle) (hset : s.handleSet = true) (c : Byte)
    (cs : List Byte) :
    ∃ t, exec (.xmit (0x200 ||| c.setWidth 16) s.cfg.facadeBl) s = .next t ∧
      exec (.showstr (c :: cs)) s = if t.status = some .ok then exec (.showstr cs) t else .next t := by
  rw [← storageOf_wordWdata_eq_or]
  have hsent := transmit_storageOf_issues (wordWdata c) s.cfg.facadeBl s
  have hwhole : exec (.showstr (c :: cs)) s = .next (sendString s.cfg.facadeBl (c :: cs) s) :=
    whenInitialised_of_set _ hidle hset
  have hrest : exec (.showstr cs) (transmit (storageOf (wordWdata c)) s.cfg.facadeBl s) = .next _ :=
    whenInitialised_of_set _ (hsent.seq hidle) (hsent.handleSet.trans hset)
  rw [hsent.cfg] at hrest
  refine ⟨_, whenIdle_of_idle _ hidle, ?_⟩
  rw [hwhole, hrest, sendString, ifOk]
  split <;> rfl

/-- Settles O38: by the loop's two equations, and its example by the plan with ten good answers. -/
theorem showStringSendsItsCharactersInOrder : Obligations.ShowStringSendsItsCharactersInOrder := by
  intro s hidle hset
  refine ⟨whenInitialised_of_set _ hidle hset, exec_showstr_cons hidle hset, fun hbl hgood => ?_⟩
  have h := showstr_endsWith_of_allGood hidle hset [0x41, 0x42] hgood
  rw [hbl] at h
  exact h

/-- Settles O39: the loop issues the plan of its string, whatever its length. -/
theorem showStringCompletesForEveryString : Obligations.ShowStringCompletesForEveryString := by
  intro cs s hidle hset
  have hexec : exec (.showstr cs) s = .next (sendString s.cfg.facadeBl cs s) := whenInitialised_of_set _ hidle hset
  refine ⟨_, hexec, (sendString_issues s.cfg.facadeBl cs s).trackerOf, exec_seq hidle hexec, fun hgood => ?_⟩
  obtain ⟨t, ht, htrace, hstatus, -⟩ := showstr_endsWith_of_allGood hidle hset cs hgood
  cases hexec.symm.trans ht
  exact ⟨hstatus, htrace⟩

/-! ### The parameters of `INIT` -/

/-- Setting and then clearing enable is clearing it (R132, R173). -/
theorem initSwitch_bytes (b : Byte) :
    (b ||| Config.M_EN).getLsbD 2 = true ∧ b &&& ~~~Config.M_EN = (b ||| Config.M_EN) &&& ~~~0x04 := by
  revert b; decide +kernel

/-- Settles O41: the two lists are read off one list of steps, whose last two are the switch. -/
theorem initParametersKeepTheirShape : Obligations.InitParametersKeepTheirShape := by
  intro p
  obtain ⟨hset, hclear⟩ := initSwitch_bytes p.initSwitch
  refine ⟨?_, p.initPulses.map Prod.fst, p.initSwitch ||| Config.M_EN, p.initSwitch &&& ~~~Config.M_EN, ?_, hset,
    hclear⟩
  · simp [Config.Params.initDelays, Config.Params.initRaw]
  · simp [Config.Params.initRaw, Config.Params.initSteps]

/-! ### The calls of `INIT` -/

/-- The calls of one raw write and its delay (R172). -/
def rawCalls (h : Handle) (p : Config.Params) (step : Byte × Nat) : List ServiceCall :=
  [.write h p.busAddr step.1 p.tWrite, .delay step.2]

/-- The calls of one transmission answered well and its delay (R172). -/
def wordCalls (h : Handle) (p : Config.Params) (bl : Bit) (step : Word × Nat) : List ServiceCall :=
  .probe h p.busAddr p.tProbe :: (bytesOf step.1 bl).map (fun b => .write h p.busAddr b p.tWrite) ++ [.delay step.2]

theorem initCalls_eq (h : Handle) (p : Config.Params) :
    initCalls h p = .delay p.initPowerUp :: p.initSteps.flatMap (rawCalls h p) ++
      (initWords p).flatMap (wordCalls h p p.facadeBl) := rfl

theorem delaysOf_flatMap_rawCalls (h : Handle) (p : Config.Params) (steps : List (Byte × Nat)) :
    delaysOf (steps.flatMap (rawCalls h p)) = steps.map Prod.snd := by
  induction steps with
  | nil => rfl
  | cons step steps ih => exact congrArg (step.2 :: ·) ih

/-- The delays among the calls of `INIT` are `INIT_DELAYS` (R175). -/
theorem delaysOf_initCalls (h : Handle) (p : Config.Params) : delaysOf (initCalls h p) = p.initDelays := by
  have hwords : delaysOf ((initWords p).flatMap (wordCalls h p p.facadeBl)) =
      [p.initFuncDelay, p.initDispDelay, p.initClearDelay, p.initEntryDelay] := rfl
  rw [initCalls_eq, delaysOf_append, hwords, Config.Params.initDelays, ← delaysOf_flatMap_rawCalls h p]
  rfl

/-- After events that answered to requests, the answers to come are those after them. -/
theorem allGood_of_answerAt {s t : State} {m n : Nat} (hanswers : ∀ k, t.answerAt k = s.answerAt (m + k))
    (h : AllGood s (m + n)) : AllGood t n := by
  intro k hk
  rw [hanswers]
  exact h (m + k) (by omega)

theorem calls_rawWrites_of_allGood {steps : List (Byte × Nat)} {s : State} (hgood : AllGood s steps.length) :
    (rawWrites steps s).calls = s.calls ++ steps.flatMap (rawCalls s.handle s.cfg) := by
  induction steps generalizing s with
  | nil => exact (List.append_nil _).symm
  | cons step steps ih =>
    obtain ⟨b, ms⟩ := step
    have hrest : AllGood (delay ms (afterEvents [.write b .done] s)) steps.length :=
      allGood_of_answerAt (m := 1) (answerAt_afterEvents _ s) (by rwa [Nat.add_comm])
    rw [rawWrites_cons_of_good (hgood 0 (Nat.zero_lt_succ _)), ih hrest]
    simp [afterEvents, rawCalls, callOf]

/-- A transmission answered well makes its five calls (R135). -/
theorem calls_transmit_of_allGood {s : State} (hgood : AllGood s 5) (w : Word) (bl : Bit) :
    (transmit (storageOf w) bl s).calls = s.calls ++ (.probe s.handle s.cfg.busAddr s.cfg.tProbe ::
      (bytesOf w bl).map fun b => .write s.handle s.cfg.busAddr b s.cfg.tWrite) := by
  obtain ⟨hissue, -⟩ := issue_xmitPlan_of_allGood hgood w bl
  rw [transmit_spec, wordOf_storageOf]
  simp only [hissue]
  rfl

/-- After a transmission answered well the next five answers are used up and the status is `OK`. -/
theorem transmit_of_allGood {s : State} (hgood : AllGood s 5) (w : Word) (bl : Bit) :
    (transmit (storageOf w) bl s).status = some .ok ∧
      ∀ k, (transmit (storageOf w) bl s).answerAt k = s.answerAt (5 + k) := by
  obtain ⟨-, hstatus⟩ := issue_xmitPlan_of_allGood hgood w bl
  have hsent := transmit_storageOf_issues w bl s
  exact ⟨by rw [hsent.status, hstatus], congrFun (hsent.answerAt hstatus)⟩

theorem calls_timedWords_of_allGood {bl : Bit} {ws : List (Word × Nat)} {s : State}
    (hgood : AllGood s (5 * ws.length)) :
    (timedWords bl ws s).calls = s.calls ++ ws.flatMap (wordCalls s.handle s.cfg bl) := by
  induction ws generalizing s with
  | nil => exact (List.append_nil _).symm
  | cons step ws ih =>
    obtain ⟨w, ms⟩ := step
    have hfive : AllGood s 5 := fun k hk => hgood k (by rw [List.length_cons]; omega)
    obtain ⟨hok, hanswers⟩ := transmit_of_allGood hfive w bl
    have hrest : AllGood (delay ms (transmit (storageOf w) bl s)) (5 * ws.length) :=
      allGood_of_answerAt (m := 5) hanswers fun k hk => hgood k (by rw [List.length_cons]; omega)
    have hsent := transmit_storageOf_issues w bl s
    rw [timedWords, ifOk_ok _ hok, ih hrest, delay_calls, calls_transmit_of_allGood hfive, delay_handle, delay_cfg,
      hsent.handle, hsent.cfg]
    simp [wordCalls]

/-- With good answers for the raw writes and the four words, `INIT` makes the calls of R172 and R174. -/
theorem calls_initialiseDevice_of_allGood {s : State} (h : Handle) (hgood : AllGood s (s.cfg.initRaw.length + 20)) :
    (initialiseDevice h s).calls = s.calls ++ initCalls h s.cfg := by
  have hlen : s.cfg.initRaw.length = s.cfg.initSteps.length := List.length_map ..
  have hstart : AllGood (delay s.cfg.initPowerUp { s with handle := h, handleSet := true }) s.cfg.initSteps.length :=
    fun k hk => hgood k (by omega)
  have hraw := rawWrites_issues s.cfg.initSteps (delay s.cfg.initPowerUp { s with handle := h, handleSet := true })
  obtain ⟨-, hok⟩ := issue_of_allGood (ts := s.cfg.initSteps.map fun step => .write step.1)
    (by rwa [List.length_map])
  have hanswers := congrFun (hraw.answerAt hok)
  have hwords : AllGood (rawWrites s.cfg.initSteps
      (delay s.cfg.initPowerUp { s with handle := h, handleSet := true })) (5 * (initWords s.cfg).length) :=
    allGood_of_answerAt hanswers (by rw [List.length_map, ← hlen]; exact hgood)
  rw [initialiseDevice, ifOk_ok _ (by rw [hraw.status, hok]), calls_timedWords_of_allGood hwords, hraw.handle, hraw.cfg,
    calls_rawWrites_of_allGood hstart, initCalls_eq]
  simp

/-- Settles O40: `INIT` issues its plan through the handle it stores, and its calls are those of its two loops. -/
theorem initSendsItsSequence : Obligations.InitSendsItsSequence := by
  intro h s hidle
  have hexec : exec (.init h) s = .next (initialiseDevice h s) := whenIdle_of_idle _ hidle
  have hissues := initialiseDevice_issues h s
  obtain ⟨htrace, hstatus, -, -⟩ := reportsPlan_of_exec_next rfl hexec
  refine ⟨_, hexec, hissues.handle, hissues.handleSet, hissues.trackerOf, htrace, hstatus, fun hgood => ?_⟩
  have hlen : (plan (.init h) s).length = s.cfg.initRaw.length + 20 := by
    have hplan : plan (.init h) s = s.cfg.initRaw.map .write ++
        [0x028, 0x00E, 0x001, 0x007].flatMap fun w => xmitPlan w s.cfg.facadeBl := rfl
    rw [hplan, List.length_append, List.length_map]
    rfl
  obtain ⟨-, hok⟩ := issue_of_allGood (s := s) (ts := plan (.init h) s) (by rwa [hlen])
  exact ⟨hstatus.trans (congrArg some hok), calls_initialiseDevice_of_allGood h hgood, delaysOf_initCalls h s.cfg⟩

end Sys2Proof.Machine
end
